-- ==== Sys2Proof/Word.lean ====
section
/-! DEFINITION. The word types of the block: operation words, host registers, 8-bit quantities. -/

namespace Sys2Proof

/-- An operation word, 32 bits (30_encoding.md R150). -/
abbrev Word := BitVec 32

/-- A host register, an accumulator or a setpoint, 16 bits (20_memory.md R100). -/
abbrev Half := BitVec 16

/-- A host register address or an 8-bit measurement (20_memory.md R100, 10_state.md R56-R59). -/
abbrev Byte := BitVec 8

end Sys2Proof
end

