-- ==== Sys2Proof/Config.lean ====
section
/-! DEFINITION. What one block fixes (the record Cfg of 00_scope.md R9) and the
free values: every draw of the spec is a constant here without a body. -/

namespace Sys2Proof

/-- BOUNDARY_SLOP (R9, 40_pulse_counter.md R211): which outcomes an edge inside a drain may have. -/
inductive Slop where
  | exact
  | tolerant
deriving DecidableEq, Repr

/-- PWM_UPDATE (R9, 44_pwm.md R401): when a written compare value reaches the comparator. -/
inductive PwmUpdate where
  | atWrap
  | immediate
deriving DecidableEq, Repr

/-- Where an edge inside a drain is counted (40_pulse_counter.md R211). -/
inductive Outcome where
  /-- OLD: in the window being drained. -/
  | old
  /-- NEW: in the next window. -/
  | new
  /-- LOST: in neither. -/
  | lost
  /-- DUP: in both. -/
  | dup
deriving DecidableEq, Repr, Inhabited

/-- The configuration record `Cfg` of 00_scope.md R9. A default value stands where the source fixes the parameter
(R5: normative, and still a parameter); the fields without one are the parameters R9 leaves open.
NCH_PULSE, NCH_ADC and ACC_W are in the types (`Chan`, `AdcSel`, `Half`), OIL_PIN_INIT is a draw of power-on (log 9).
The timing parameters are left out (log 11). -/
structure Cfg where
  windowTicks : Nat := 4
  phase0 : Nat
  phase1 : Nat
  rpmMul : Nat := 1000
  rpmDiv : Nat := 18
  spdMul : Nat := 1
  spdDiv : Nat := 1
  boundarySlop : Slop
  tempTable : List Nat
  tempBase : Nat := 40
  tempStep : Nat := 10
  /-- TEMP_COLD, the cold sentinel (41_adc_sampler.md R254). -/
  tempCold : Byte := 0
  /-- TEMP_HOT, the hot sentinel (41_adc_sampler.md R254). -/
  tempHot : Byte := 255
  /-- HP_DISABLED: the half-period that means "output disabled", and the count "reload due" (10_state.md R61, R63). -/
  hpDisabled : Half := 0xFFFF
  tabRpm : List Nat
  wRpm : Nat
  tabSpd : List Nat
  wSpd : Nat
  tabTmp : List Nat
  wTmp : Nat
  tabFuel : List Nat
  wFuel : Nat
  tmpLo : Nat := 50
  tmpHi : Nat := 130
  fuelLo : Nat := 0
  fuelHi : Nat := 100
  /-- FUEL_TO_PCT as data: entry k is the level of raw sample k, a sample past the end stands for itself, so the
  empty list is the default (identity) and every function of an 8-bit sample is some list of 256 entries (log 10). -/
  fuelToPct : List Nat
  pwmTop : Nat
  pwmUpdate : PwmUpdate
  pwmOff : Half
  gateThreshold : Nat := 1450
deriving DecidableEq, Repr

/-- The source-fixed parameters of 00_scope.md R9 have the values the source gives. -/
def Cfg.sourceFixed (c : Cfg) : Bool :=
  c.windowTicks == 4 && c.rpmMul == 1000 && c.rpmDiv == 18 && c.spdMul == 1 && c.spdDiv == 1 &&
  c.tempBase == 40 && c.tempStep == 10 && c.tempCold == 0 && c.tempHot == 255 &&
  c.hpDisabled == 0xFFFF && c.tmpLo == 50 && c.tmpHi == 130 && c.fuelLo == 0 && c.fuelHi == 100 && c.gateThreshold == 1450

/-- The draw of 40_pulse_counter.md R205 for channel 0: what `rpm` holds when the rate of base tick k is too wide. -/
opaque Config.rpmDraw : Nat → Half

/-- The draw of 40_pulse_counter.md R205 for channel 1: what `speed` holds when the rate of base tick k is too wide. -/
opaque Config.speedDraw : Nat → Byte

/-- The draw of 40_pulse_counter.md R210: where the edge inside the drain of base tick k is counted, before
BOUNDARY_SLOP restricts it. -/
opaque Config.boundaryDraw : Nat → Outcome

/-- OIL_PIN_INIT (R9, 70_reset_and_hazards.md R601): the level of the oil pin at power-on, a draw. -/
opaque Config.oilPinInit : Bool

/-- The example configuration EX of 00_scope.md section 8: a test fixture. It is used only to show that configurations
exist; the model takes no value from it. -/
def Config.example : Cfg :=
  { phase0 := 0, phase1 := 2, boundarySlop := .tolerant
    tempTable := [210, 190, 168, 145, 122, 100, 80, 62, 47, 35]
    tabRpm := [1200, 600, 300, 200, 150, 120, 100, 86, 75], wRpm := 1000
    tabSpd := [1000, 500, 250, 167, 125, 100, 83, 71], wSpd := 20
    tabTmp := [16, 40, 64, 96, 128, 160, 192, 224, 250], wTmp := 10
    tabFuel := [30, 80, 130, 190, 250], wFuel := 25
    fuelToPct := [], pwmTop := 255, pwmUpdate := .atWrap, pwmOff := 0 }

end Sys2Proof
end

