-- ==== Sys2Proof/Syntax.lean ====
section
/-! DEFINITION. The operations of the block, one constructor per row of 30_encoding.md R154, and the assembler lines of
R158 and R159. -/

namespace Sys2Proof

/-- A channel of a two-channel unit: 0 the engine sensor, RPM gauge, temperature gauge; 1 the wheel sensor, speed gauge,
fuel gauge (10_state.md R53, R61, R65). -/
inductive Chan where
  | ch0
  | ch1
deriving DecidableEq, Repr

/-- The operations (30_encoding.md R154). Operands have exactly the values R152 allows, so every term is well formed. -/
inductive Instr where
  | edge (c : Chan)
  | btick
  | bticke (c : Chan)
  | adcdone (d : Half)
  | wtick
  | ptick
  | oilin (l : Bool)
  | rd (a : Byte)
  | wr (a : Byte) (v : Half)
  | actRpm (v : Half)
  | actSpd (v : Byte)
  | actTmp (v : Byte)
  | actFuel (v : Byte)
  | gate
  | reset
deriving DecidableEq, Repr

/-- The host registers of the map (20_memory.md R101). -/
inductive HostReg where
  | rpm | speed | temp | fuel | status | acc0 | acc1 | pcnt | hp0 | hp1 | cmp0 | cmp1 | wcnt0 | wcnt1
deriving DecidableEq, Repr

/-- The `reg` operand of the assembler: a register name or a number (30_encoding.md R158). -/
inductive RegOperand where
  | name (r : HostReg)
  | number (n : Nat)
deriving DecidableEq, Repr

/-- A line of the assembly syntax (30_encoding.md R158) or a pseudo-operation (R159). Operands are the numbers as
written; `AsmLine.check` refuses the ones out of range. -/
inductive AsmLine where
  | edge (c : Nat)
  | btick
  | bticke (c : Nat)
  | adcdone (d : Nat)
  | wtick
  | ptick
  | oilin (l : Nat)
  | rd (r : RegOperand)
  | wr (r : RegOperand) (v : Nat)
  | actRpm (v : Nat)
  | actSpd (v : Nat)
  | actTmp (v : Nat)
  | actFuel (v : Nat)
  | gate
  | reset
  /-- `SAMPLE s`. -/
  | sample (s : Nat)
  /-- `EDGES c, n`. -/
  | edges (c n : Nat)
  /-- `BTICKS n`. -/
  | bticks (n : Nat)
  /-- `WTICKS n`. -/
  | wticks (n : Nat)
  /-- `PTICKS n`. -/
  | pticks (n : Nat)
  /-- `WINDOW`. -/
  | window
  /-- `DISABLE c`. -/
  | disable (c : Nat)
deriving DecidableEq, Repr

end Sys2Proof
end

