-- ==== Sys2Proof/WellFormed.lean ====
section
/-! DEFINITION. Well-formedness: the named checks (c1) to (c10) of a configuration (00_scope.md R10), the board that a
machine is built on, and the operand checks of the assembler (30_encoding.md R158). Operations need no check: their
types hold exactly the legal operands. -/

namespace Sys2Proof

/-- Every two neighbours of the list satisfy `p`. -/
def adjacent (p : Nat → Nat → Bool) : List Nat → Bool
  | [] => true
  | [_] => true
  | a :: b :: rest => p a b && adjacent p (b :: rest)

/-- The named checks of 00_scope.md R10. -/
inductive CfgCheck where
  /-- TEMP_TABLE has two entries or more, strictly descending, each an 8-bit value. -/
  | c1
  /-- The hottest breakpoint's degrees stay below the hot sentinel. -/
  | c2
  /-- Every bucket table has two 16-bit entries or more and a width of at least 1. -/
  | c3
  /-- The half-period tables hold neither 0 nor the disabled sentinel. -/
  | c4
  /-- TAB_RPM is non-increasing. -/
  | c5
  /-- The degree table spans the temperature clamp. -/
  | c6
  /-- The fuel table spans the fuel clamp. -/
  | c7
  /-- TAB_FUEL is strictly monotonic with steps of at least W_FUEL. -/
  | c8
  /-- Divisors, window and phases. -/
  | c9
  /-- PWM_TOP lies in 1..0xFFFF. -/
  | c10
deriving DecidableEq, Repr

/-- A bucket table and its width (check c3). -/
def tableShape (t : List Nat) (w : Nat) : Bool :=
  decide (2 ≤ t.length) && t.all (fun e => decide (e ≤ 0xFFFF)) && decide (1 ≤ w)

/-- A half-period table (check c4): its entries lie from 1 up to just below the disabled sentinel, 0xFFFE with the source's
sentinel (log 9). -/
def halfPeriods (disabled : Half) (t : List Nat) : Bool := t.all (fun e => decide (1 ≤ e) && decide (e < disabled.toNat))

/-- Does the configuration pass the check (00_scope.md R10)? The bounds 254 of (c2) and 0xFFFE of (c4) are what the source's
sentinels 255 and 0xFFFF leave; they follow the sentinels (log 9). -/
def Cfg.passes (c : Cfg) : CfgCheck → Bool
  | .c1 => decide (2 ≤ c.tempTable.length) && adjacent (fun a b => decide (b < a)) c.tempTable &&
      c.tempTable.all (fun t => decide (t ≤ 255))
  | .c2 => decide (c.tempBase + c.tempStep * (c.tempTable.length - 1) < c.tempHot.toNat)
  | .c3 => tableShape c.tabRpm c.wRpm && tableShape c.tabSpd c.wSpd && tableShape c.tabTmp c.wTmp &&
      tableShape c.tabFuel c.wFuel
  | .c4 => halfPeriods c.hpDisabled c.tabRpm && halfPeriods c.hpDisabled c.tabSpd
  | .c5 => adjacent (fun a b => decide (b ≤ a)) c.tabRpm
  | .c6 => decide (c.tmpLo + c.wTmp * (c.tabTmp.length - 1) = c.tmpHi)
  | .c7 => decide (c.fuelLo + c.wFuel * (c.tabFuel.length - 1) = c.fuelHi)
  | .c8 => adjacent (fun a b => decide (a < b) && decide (a + c.wFuel ≤ b)) c.tabFuel ||
      adjacent (fun a b => decide (b < a) && decide (b + c.wFuel ≤ a)) c.tabFuel
  | .c9 => decide (1 ≤ c.rpmDiv) && decide (1 ≤ c.spdDiv) && decide (1 ≤ c.windowTicks) &&
      decide (c.phase0 < c.windowTicks) && decide (c.phase1 < c.windowTicks) &&
      (decide (c.phase0 ≠ c.phase1) || decide (c.windowTicks = 1)) && decide (c.windowTicks ≤ 256)
  | .c10 => decide (1 ≤ c.pwmTop) && decide (c.pwmTop ≤ 0xFFFF)

/-- All checks, in the order of R10. -/
def CfgCheck.all : List CfgCheck := [.c1, .c2, .c3, .c4, .c5, .c6, .c7, .c8, .c9, .c10]

/-- The first check the configuration fails: the name it is refused by (60_exceptions.md R554). -/
def Cfg.failedCheck (c : Cfg) : Option CfgCheck := CfgCheck.all.find? (fun k => !c.passes k)

/-- The configuration passes every check of R10. -/
def Cfg.wf (c : Cfg) : Bool := c.failedCheck.isNone

/-- What a machine is built on: a configuration with the proof that it is well formed, so that no machine exists for
any other (60_exceptions.md R554, 00_scope.md R10). -/
structure Board where
  cfg : Cfg
  ok : cfg.wf = true
deriving DecidableEq, Repr

/-- Build the board of a configuration, or refuse the configuration by the name of the check it fails (R10, R554). -/
def Board.build (c : Cfg) : Except CfgCheck Board :=
  match h : c.failedCheck with
  | some k => .error k
  | none => .ok { cfg := c, ok := by simp [Cfg.wf, h] }

/-- A board whose source-fixed parameters have the source's values (00_scope.md R9). -/
structure SourceBoard where
  board : Board
  fixed : board.cfg.sourceFixed = true
deriving DecidableEq, Repr

/-- EX passes every check, so boards with the source's values exist. -/
def Config.exampleBoard : SourceBoard :=
  { board := { cfg := Config.example, ok := by decide }, fixed := by decide }

/-- The board this machine is built with: the open parameters of R9 as a free value. The argument only shows that such
boards exist; no value of it can be proved (log 8). -/
opaque Config.freeBoard [Inhabited SourceBoard] : SourceBoard

/-- The board at power-on. -/
def Config.board : SourceBoard := @Config.freeBoard ⟨Config.exampleBoard⟩

/-- The named operand checks of the assembler (30_encoding.md R158: it refuses rather than truncates). -/
inductive AsmCheck where
  /-- A channel is 0 or 1. -/
  | channel
  /-- A level is 0 or 1. -/
  | level
  /-- A register number is at most 255. -/
  | register
  /-- A 16-bit value is below 2^16. -/
  | value16
  /-- An 8-bit value is below 256. -/
  | value8
deriving DecidableEq, Repr

/-- Is the register operand in range? -/
def RegOperand.inRange : RegOperand → Bool
  | .name _ => true
  | .number n => decide (n ≤ 255)

/-- The first operand check the line fails, if any (30_encoding.md R158, R159). -/
def AsmLine.failedCheck : AsmLine → Option AsmCheck
  | .edge c => if c ≤ 1 then none else some .channel
  | .bticke c => if c ≤ 1 then none else some .channel
  | .adcdone d => if d < 65536 then none else some .value16
  | .oilin l => if l ≤ 1 then none else some .level
  | .rd r => if r.inRange then none else some .register
  | .wr r v => if r.inRange then (if v < 65536 then none else some .value16) else some .register
  | .actRpm v => if v < 65536 then none else some .value16
  | .actSpd v => if v < 256 then none else some .value8
  | .actTmp v => if v < 256 then none else some .value8
  | .actFuel v => if v < 256 then none else some .value8
  | .sample s => if s < 256 then none else some .value8
  | .edges c _ => if c ≤ 1 then none else some .channel
  | .disable c => if c ≤ 1 then none else some .channel
  | .btick => none
  | .wtick => none
  | .ptick => none
  | .gate => none
  | .reset => none
  | .bticks _ => none
  | .wticks _ => none
  | .pticks _ => none
  | .window => none

/-- Every operand of the line is in range. -/
def AsmLine.wf (l : AsmLine) : Bool := l.failedCheck.isNone

end Sys2Proof
end

