-- ==== Sys2Proof/Decode.lean ====
section
/-! DEFINITION. The decoder, total on every word; the encoder; the opcode table of 30_encoding.md R154; the assembler of
R158 and R159. All written from 30_encoding.md and the register map of 20_memory.md R101. -/

namespace Sys2Proof

/-- OP, bits [31:24] (R150). -/
def opOf (w : Word) : Byte := w.extractLsb' 24 8

/-- ARG, bits [23:16] (R150). -/
def argOf (w : Word) : Byte := w.extractLsb' 16 8

/-- DATA, bits [15:0] (R150). -/
def dataOf (w : Word) : Half := w.extractLsb' 0 16

/-- The word with the three fields (R150). -/
def packWord (op arg : Byte) (data : Half) : Word := op ++ arg ++ data

/-- The channel that ARG[0] names (R152). -/
def chanOfBit : Bool → Chan
  | false => .ch0
  | true => .ch1

/-- ARG of a channel operand (R152). -/
def chanArg : Chan → Byte
  | .ch0 => 0
  | .ch1 => 1

/-- Why the decoder rejects a word. All three are the spec's ILLEGAL (R156). -/
inductive Reject where
  /-- OP is none of the listed values. -/
  | unknownOp
  /-- OP 0x20 with ARG above 3. -/
  | unknownActuator
  /-- A field that must be zero is not. -/
  | nonzeroField
deriving DecidableEq, Repr

/-- An operation with ARG and DATA zero. -/
def decodePlain (arg : Byte) (data : Half) (i : Instr) : Except Reject Instr :=
  if arg = 0 ∧ data = 0 then .ok i else .error .nonzeroField

/-- An operation with a one-bit operand in ARG[0], ARG[7:1] and DATA zero. -/
def decodeBit (arg : Byte) (data : Half) (f : Bool → Instr) : Except Reject Instr :=
  if data = 0 then
    if arg = 0 then .ok (f false) else if arg = 1 then .ok (f true) else .error .nonzeroField
  else .error .nonzeroField

/-- An ACT with an 8-bit operand in DATA[7:0], DATA[15:8] zero. -/
def decodeAct8 (data : Half) (f : Byte → Instr) : Except Reject Instr :=
  if data.extractLsb' 8 8 = 0 then .ok (f (data.extractLsb' 0 8)) else .error .nonzeroField

/-- OP 0x20: ARG names the actuator channel (R152, R154). -/
def decodeAct (arg : Byte) (data : Half) : Except Reject Instr :=
  if arg = 0 then .ok (.actRpm data)
  else if arg = 1 then decodeAct8 data .actSpd
  else if arg = 2 then decodeAct8 data .actTmp
  else if arg = 3 then decodeAct8 data .actFuel
  else .error .unknownActuator

/-- The decoder (R154, R155, R156): total, one operation or a named rejection. -/
def decode (w : Word) : Except Reject Instr :=
  match opOf w with
  | 0x01#8 => decodeBit (argOf w) (dataOf w) (fun b => .edge (chanOfBit b))
  | 0x02#8 => decodePlain (argOf w) (dataOf w) .btick
  | 0x03#8 => decodeBit (argOf w) (dataOf w) (fun b => .bticke (chanOfBit b))
  | 0x04#8 => if argOf w = 0 then .ok (.adcdone (dataOf w)) else .error .nonzeroField
  | 0x05#8 => decodePlain (argOf w) (dataOf w) .wtick
  | 0x06#8 => decodePlain (argOf w) (dataOf w) .ptick
  | 0x07#8 => decodeBit (argOf w) (dataOf w) .oilin
  | 0x10#8 => if dataOf w = 0 then .ok (.rd (argOf w)) else .error .nonzeroField
  | 0x11#8 => .ok (.wr (argOf w) (dataOf w))
  | 0x20#8 => decodeAct (argOf w) (dataOf w)
  | 0x21#8 => decodePlain (argOf w) (dataOf w) .gate
  | 0x30#8 => decodePlain (argOf w) (dataOf w) .reset
  | _ => .error .unknownOp

/-- OP of each operation (R154). -/
def Instr.op : Instr → Byte
  | .edge _ => 0x01
  | .btick => 0x02
  | .bticke _ => 0x03
  | .adcdone _ => 0x04
  | .wtick => 0x05
  | .ptick => 0x06
  | .oilin _ => 0x07
  | .rd _ => 0x10
  | .wr _ _ => 0x11
  | .actRpm _ => 0x20
  | .actSpd _ => 0x20
  | .actTmp _ => 0x20
  | .actFuel _ => 0x20
  | .gate => 0x21
  | .reset => 0x30

/-- ARG of each operation (R152, R154). -/
def Instr.arg : Instr → Byte
  | .edge c => chanArg c
  | .btick => 0
  | .bticke c => chanArg c
  | .adcdone _ => 0
  | .wtick => 0
  | .ptick => 0
  | .oilin l => if l then 1 else 0
  | .rd a => a
  | .wr a _ => a
  | .actRpm _ => 0
  | .actSpd _ => 1
  | .actTmp _ => 2
  | .actFuel _ => 3
  | .gate => 0
  | .reset => 0

/-- DATA of each operation (R152, R154). -/
def Instr.data : Instr → Half
  | .edge _ => 0
  | .btick => 0
  | .bticke _ => 0
  | .adcdone d => d
  | .wtick => 0
  | .ptick => 0
  | .oilin _ => 0
  | .rd _ => 0
  | .wr _ v => v
  | .actRpm v => v
  | .actSpd v => v.setWidth 16
  | .actTmp v => v.setWidth 16
  | .actFuel v => v.setWidth 16
  | .gate => 0
  | .reset => 0

/-- The encoder (R154): the word of an operation. -/
def encode (i : Instr) : Word := packWord i.op i.arg i.data

/-- A row of the opcode table of R154: a word is the row's operation when its bits under the mask are the match. -/
structure OpRow where
  mnemonic : String
  matchBits : Word
  maskBits : Word
deriving DecidableEq, Repr

/-- The word is an operation of the row (R154). -/
def OpRow.accepts (r : OpRow) (w : Word) : Bool := w &&& r.maskBits == r.matchBits

/-- The opcode table of R154, row by row. -/
def opcodeTable : List OpRow :=
  [ ⟨"EDGE", 0x01000000, 0xFFFEFFFF⟩, ⟨"BTICK", 0x02000000, 0xFFFFFFFF⟩, ⟨"BTICKE", 0x03000000, 0xFFFEFFFF⟩,
    ⟨"ADCDONE", 0x04000000, 0xFFFF0000⟩, ⟨"WTICK", 0x05000000, 0xFFFFFFFF⟩, ⟨"PTICK", 0x06000000, 0xFFFFFFFF⟩,
    ⟨"OILIN", 0x07000000, 0xFFFEFFFF⟩, ⟨"RD", 0x10000000, 0xFF00FFFF⟩, ⟨"WR", 0x11000000, 0xFF000000⟩,
    ⟨"ACT.RPM", 0x20000000, 0xFFFF0000⟩, ⟨"ACT.SPD", 0x20010000, 0xFFFFFF00⟩,
    ⟨"ACT.TMP", 0x20020000, 0xFFFFFF00⟩, ⟨"ACT.FUEL", 0x20030000, 0xFFFFFF00⟩,
    ⟨"GATE", 0x21000000, 0xFFFFFFFF⟩, ⟨"RESET", 0x30000000, 0xFFFFFFFF⟩ ]

/-- The mnemonic of each operation (R154). -/
def Instr.mnemonic : Instr → String
  | .edge _ => "EDGE"
  | .btick => "BTICK"
  | .bticke _ => "BTICKE"
  | .adcdone _ => "ADCDONE"
  | .wtick => "WTICK"
  | .ptick => "PTICK"
  | .oilin _ => "OILIN"
  | .rd _ => "RD"
  | .wr _ _ => "WR"
  | .actRpm _ => "ACT.RPM"
  | .actSpd _ => "ACT.SPD"
  | .actTmp _ => "ACT.TMP"
  | .actFuel _ => "ACT.FUEL"
  | .gate => "GATE"
  | .reset => "RESET"

/-- The decoder on a word of the opcode table's numbering, `nbits` bits given and the bits above them zero. The block
has one 32-bit format and fixes no byte order (R150, R151), so the word is handed over whole (log 12). -/
def decodeTableWord (nbits w : Nat) : Option Instr :=
  if 32 < nbits then none
  else
    match decode (BitVec.ofNat 32 (w % 2 ^ nbits)) with
    | .ok i => some i
    | .error _ => none

/-- The address of a host register (20_memory.md R101). -/
def HostReg.addr : HostReg → Byte
  | .rpm => 0x00
  | .speed => 0x01
  | .temp => 0x02
  | .fuel => 0x03
  | .status => 0x04
  | .acc0 => 0x05
  | .acc1 => 0x06
  | .pcnt => 0x07
  | .hp0 => 0x08
  | .hp1 => 0x09
  | .cmp0 => 0x0A
  | .cmp1 => 0x0B
  | .wcnt0 => 0x0C
  | .wcnt1 => 0x0D

/-- The register an address names; none for a reserved address (20_memory.md R101, R103). -/
def HostReg.ofAddr (a : Byte) : Option HostReg :=
  match a with
  | 0x00#8 => some .rpm
  | 0x01#8 => some .speed
  | 0x02#8 => some .temp
  | 0x03#8 => some .fuel
  | 0x04#8 => some .status
  | 0x05#8 => some .acc0
  | 0x06#8 => some .acc1
  | 0x07#8 => some .pcnt
  | 0x08#8 => some .hp0
  | 0x09#8 => some .hp1
  | 0x0A#8 => some .cmp0
  | 0x0B#8 => some .cmp1
  | 0x0C#8 => some .wcnt0
  | 0x0D#8 => some .wcnt1
  | _ => none

/-- The address of a register operand in range (R158). -/
def RegOperand.addr : RegOperand → Byte
  | .name r => r.addr
  | .number n => BitVec.ofNat 8 n

/-- The channel of an operand in range. -/
def chanOfNat (c : Nat) : Chan := chanOfBit (c == 1)

/-- The operations a line with its operands in range stands for (R158, R159). -/
def AsmLine.expand (cfg : Cfg) : AsmLine → List Instr
  | .edge c => [.edge (chanOfNat c)]
  | .btick => [.btick]
  | .bticke c => [.bticke (chanOfNat c)]
  | .adcdone d => [.adcdone (BitVec.ofNat 16 d)]
  | .wtick => [.wtick]
  | .ptick => [.ptick]
  | .oilin l => [.oilin (l == 1)]
  | .rd r => [.rd r.addr]
  | .wr r v => [.wr r.addr (BitVec.ofNat 16 v)]
  | .actRpm v => [.actRpm (BitVec.ofNat 16 v)]
  | .actSpd v => [.actSpd (BitVec.ofNat 8 v)]
  | .actTmp v => [.actTmp (BitVec.ofNat 8 v)]
  | .actFuel v => [.actFuel (BitVec.ofNat 8 v)]
  | .gate => [.gate]
  | .reset => [.reset]
  | .sample s => [.adcdone (BitVec.ofNat 16 (s * 256))]
  | .edges c n => List.replicate n (.edge (chanOfNat c))
  | .bticks n => List.replicate n .btick
  | .wticks n => List.replicate n .wtick
  | .pticks n => List.replicate n .ptick
  | .window => List.replicate cfg.windowTicks .btick
  | .disable c => [.wr (match chanOfNat c with | .ch0 => HostReg.hp0.addr | .ch1 => HostReg.hp1.addr) cfg.hpDisabled]

/-- Assemble one line: its operation words, or the operand check it fails (R158, R159). -/
def assemble (cfg : Cfg) (l : AsmLine) : Except AsmCheck (List Word) :=
  match l.failedCheck with
  | some k => .error k
  | none => .ok ((l.expand cfg).map encode)

end Sys2Proof
end

