-- ==== Sys2Proof/Machine/State.lean ====
section
/-! DEFINITION. The state of the block (10_state.md), the fault records, the reasons a step can stop, and the state
right after reset. -/

namespace Sys2Proof.Machine

/-- The two copies of a per-channel field. -/
structure Pair (α : Type) where
  ch0 : α
  ch1 : α
deriving DecidableEq, Repr

/-- The multiplexer's channel: the one whose conversion is in progress (10_state.md R58, R60). -/
inductive AdcSel where
  | temperature
  | fuel
deriving DecidableEq, Repr

/-- The fault kinds of the spec with their info (60_exceptions.md R551). A fault of the spec stops nothing: it is
recorded in `State.faults` and the block goes on (R552, R564; log 1). -/
inductive FaultKind where
  /-- The word matches no row of the opcode table. -/
  | illegal (w : Word)
  /-- RD or WR of a reserved address. -/
  | busUnmapped (a : Byte)
  /-- WR to a read-only register. -/
  | busReadonly (a : Byte)
  /-- WR of 0 to a half-period. -/
  | badValue (a : Byte) (v : Half)
deriving DecidableEq, Repr

/-- A fault record (kind, info, w): the word is the operation performed (60_exceptions.md R551). -/
structure FaultRecord where
  kind : FaultKind
  word : Word
deriving DecidableEq, Repr

/-- The reasons the machine can stop with a fault: NONE. The spec's faults are recorded and the block goes on
(60_exceptions.md R552, R564), and no sequence of operations makes it stuck (46_host_bus.md R508). Safe (log 1). -/
inductive Fault : Type where
deriving DecidableEq, Repr

/-- The reasons the machine can refuse an instruction. -/
inductive Refusal where
  /-- Raised only by an arm of `exec` for an instruction without a meaning; no arm of this model is one. Safe. -/
  | notModelled (mnemonic : String)
deriving DecidableEq, Repr

/-- The state of the block. -/
@[ext]
structure State where
  /-- The checked configuration, fixed for the life of the block (00_scope.md R9, R10). -/
  board : Board
  /-- acc[c], the pulse accumulators (R53). -/
  acc : Pair Half
  /-- rpm, the published engine speed (R54). -/
  rpm : Half
  /-- wph, the window phase (R55). -/
  wph : Byte
  /-- speed, the published wheel speed (R56). -/
  speed : Byte
  /-- temp, the published temperature or a sentinel (R57). -/
  temp : Byte
  /-- adc_sel (R58). -/
  adcSel : AdcSel
  /-- fuel, the published raw fuel sample (R59). -/
  fuel : Byte
  /-- hp[c], the half-period setpoints (R61). -/
  hp : Pair Half
  /-- wcnt[c], the square-wave countdowns (R63). -/
  wcnt : Pair Half
  /-- fout[c], the levels of FREQ0 and FREQ1 (R64). -/
  fout : Pair Bool
  /-- cmp[c], the compare setpoints (R65). -/
  cmp : Pair Half
  /-- cmp_act[c], the active compare values (R66). -/
  cmpAct : Pair Half
  /-- pcnt, the PWM count (R67). -/
  pcnt : Half
  /-- oil_pin, the latched oil-pressure input (R69). -/
  oilPin : Bool
  /-- lamp, the lamp output latch (R70). -/
  lamp : Bool
  /-- armed, the gate state: true is Armed (R71). -/
  armed : Bool
  /-- faults, the fault records, oldest first (R72). -/
  faults : List FaultRecord
  /-- The model's own: the operation words presented and not yet performed, oldest first (R11, R51; log 2). -/
  pending : List Word
  /-- The model's own: what `out(v)` gave the host in the operation just performed (R15; log 4). -/
  response : Option Half
  /-- The model's own: the index of the next base tick's draws (R15; log 5). -/
  draws : Nat
deriving DecidableEq, Repr

/-- Power-on of a board with the oil pin at a level (70_reset_and_hazards.md R600, R601). Nothing is pending and no draw
has been made (log 2, log 5). -/
def State.powerOn (b : Board) (oilPin : Bool) : State :=
  { board := b
    acc := ⟨0, 0⟩
    rpm := 0
    wph := 0
    speed := 0
    temp := b.cfg.tempCold
    adcSel := .temperature
    fuel := 0
    hp := ⟨b.cfg.hpDisabled, b.cfg.hpDisabled⟩
    wcnt := ⟨b.cfg.hpDisabled, b.cfg.hpDisabled⟩
    fout := ⟨false, false⟩
    cmp := ⟨b.cfg.pwmOff, b.cfg.pwmOff⟩
    cmpAct := ⟨b.cfg.pwmOff, b.cfg.pwmOff⟩
    pcnt := 0
    oilPin := oilPin
    lamp := false
    armed := false
    faults := []
    pending := []
    response := none
    draws := 0 }

/-- The machine right after reset: power-on of the unknown board with the drawn pin level (R601; log 7, log 8). -/
def State.reset : State := State.powerOn Config.board.board Config.oilPinInit

end Sys2Proof.Machine
end

