-- ==== Sys2Proof/Machine/Operands.lean ====
section
/-! DEFINITION. The operand forms: the copy of a field that a channel names, the sample of an ADC result. The
address forms are `HostReg.ofAddr` in Decode.lean and `regRead`, `regWrite` in Ops.lean. -/

namespace Sys2Proof.Machine

/-- The copy of a per-channel field (00_scope.md R14, `S.f[c]`). -/
def Pair.get {α : Type} (p : Pair α) : Chan → α
  | .ch0 => p.ch0
  | .ch1 => p.ch1

/-- Replace one copy of a per-channel field (00_scope.md R14). -/
def Pair.set {α : Type} (p : Pair α) (c : Chan) (x : α) : Pair α :=
  match c with
  | .ch0 => { p with ch0 := x }
  | .ch1 => { p with ch1 := x }

/-- The other channel. -/
def otherChan : Chan → Chan
  | .ch0 => .ch1
  | .ch1 => .ch0

/-- The sample of a left-aligned ADC result, DATA[15:8] (30_encoding.md R152, R153). -/
def adcSample (d : Half) : Byte := d.extractLsb' 8 8

end Sys2Proof.Machine
end

