-- ==== Sys2Proof/Machine/Flags.lean ====
section
/-! DEFINITION. The block has no flags (10_state.md R52). This file computes what stands in their place: the levels of
the output pins and the STATUS word. -/

namespace Sys2Proof.Machine

/-- pout[c], the level of PWM output c, a function of the state (10_state.md R68, 44_pwm.md R403). -/
def State.pout (s : State) (c : Chan) : Bool := decide (s.pcnt < s.cmpAct.get c)

/-- The bit of adc_sel: 0 temperature, 1 fuel (10_state.md R58). -/
def adcSelBit : AdcSel → Bool
  | .temperature => false
  | .fuel => true

/-- The STATUS word, high bits first (20_memory.md R104). -/
def State.status (s : State) : Half :=
  s.wph ++ BitVec.ofBool (adcSelBit s.adcSel) ++ BitVec.ofBool s.oilPin ++ BitVec.ofBool s.armed ++
    BitVec.ofBool s.lamp ++ BitVec.ofBool (s.pout .ch1) ++ BitVec.ofBool (s.pout .ch0) ++
    BitVec.ofBool (s.fout.get .ch1) ++ BitVec.ofBool (s.fout.get .ch0)

/-- The output pins (10_state.md R74). -/
structure Pins where
  freq0 : Bool
  freq1 : Bool
  pwm0 : Bool
  pwm1 : Bool
  lamp : Bool
deriving DecidableEq, Repr

/-- The levels the block drives (10_state.md R74). -/
def State.pins (s : State) : Pins :=
  { freq0 := s.fout.get .ch0, freq1 := s.fout.get .ch1, pwm0 := s.pout .ch0, pwm1 := s.pout .ch1, lamp := s.lamp }

end Sys2Proof.Machine
end

