-- ==== Sys2Proof/Machine/Ops.lean ====
section
/-! DEFINITION. The shared operations: presenting and taking operation words, recording a fault, the drain of a pulse
channel, the temperature lookup, the bucket interpolation, the square-wave step, the compare setpoint, the host
register accesses. -/

namespace Sys2Proof.Machine

/-! ## Operation words and faults -/

/-- Take the oldest word presented, with the state its operation starts from: the word is gone and there is no response
yet (00_scope.md R11, R15). -/
def takeWord (s : State) : Option (Word × State) :=
  match s.pending with
  | [] => none
  | w :: rest => some (w, { s with pending := rest, response := none })

/-- Present a word to be performed next. -/
def presentWord (w : Word) (s : State) : State := { s with pending := w :: s.pending }

/-- Taking a fault (60_exceptions.md R552): no architectural field changes, no read value is returned, the record is
appended. There is no trap entry and nothing to return from (R564, R565). -/
def recordFault (k : FaultKind) (w : Word) (s : State) : State :=
  { s with faults := s.faults ++ [{ kind := k, word := w }], response := none }

/-- The number of a fault kind (60_exceptions.md R551). -/
def faultCode : FaultKind → Nat
  | .illegal _ => 1
  | .busUnmapped _ => 2
  | .busReadonly _ => 3
  | .badValue _ _ => 4

/-- A word that does not decode raises ILLEGAL and nothing else (30_encoding.md R156, 60_exceptions.md R553). -/
def illegalWord (w : Word) (s : State) : State := recordFault (.illegal w) w s

/-! ## Pulse-edge counter -/

/-- rate0 (40_pulse_counter.md R204). -/
def rate0 (c : Cfg) (n : Nat) : Nat := n * c.rpmMul / c.rpmDiv

/-- rate1 (40_pulse_counter.md R204). -/
def rate1 (c : Cfg) (n : Nat) : Nat := n * c.spdMul / c.spdDiv

/-- fit_16: a rate too wide for `rpm` publishes the draw of base tick k (40_pulse_counter.md R205). -/
def fitRpm (x k : Nat) : Half := if x < 2 ^ 16 then BitVec.ofNat 16 x else Config.rpmDraw k

/-- fit_8: a rate too wide for `speed` publishes the draw of base tick k (40_pulse_counter.md R205). -/
def fitSpeed (x k : Nat) : Byte := if x < 2 ^ 8 then BitVec.ofNat 8 x else Config.speedDraw k

/-- PHASE_c (40_pulse_counter.md R203). -/
def drainPhase (c : Cfg) : Chan → Nat
  | .ch0 => c.phase0
  | .ch1 => c.phase1

/-- The phase after the next base tick (40_pulse_counter.md R202). -/
def nextPhase (s : State) : Nat := (s.wph.toNat + 1) % s.board.cfg.windowTicks

/-- Publish the rate of a drained count (40_pulse_counter.md R206, R207). -/
def publish (c : Chan) (n : Nat) (s : State) : State :=
  match c with
  | .ch0 => { s with rpm := fitRpm (rate0 s.board.cfg n) s.draws }
  | .ch1 => { s with speed := fitSpeed (rate1 s.board.cfg n) s.draws }

/-- Drain(c): read and clear the accumulator and publish its rate (40_pulse_counter.md R206, R207). -/
def drain (c : Chan) (s : State) : State :=
  publish c (s.acc.get c).toNat { s with acc := s.acc.set c 0 }

/-- Drain channel c if phase p is its phase (40_pulse_counter.md R202). -/
def drainIf (p : Nat) (c : Chan) (s : State) : State :=
  if p = drainPhase s.board.cfg c then drain c s else s

/-- Count one edge (40_pulse_counter.md R200, R214: modulo 2^16). -/
def countEdge (c : Chan) (s : State) : State := { s with acc := s.acc.set c (s.acc.get c + 1) }

/-- Count an edge if it counts. -/
def addEdge (b : Bool) (x : Half) : Half := if b then x + 1 else x

/-- The base tick is over: the next one draws afresh (log 5). -/
def endTick (s : State) : State := { s with draws := s.draws + 1 }

/-- One base tick (40_pulse_counter.md R202). -/
def baseTick (s : State) : State :=
  let p := nextPhase s
  endTick (drainIf p .ch1 (drainIf p .ch0 { s with wph := BitVec.ofNat 8 p }))

/-- The outcomes BOUNDARY_SLOP allows: TOLERANT all four, EXACT only OLD and NEW (40_pulse_counter.md R211). A draw
outside the EXACT set is folded into it, so that its image is the whole set (log 6). -/
def allowOutcome : Slop → Outcome → Outcome
  | .tolerant, o => o
  | .exact, .old => .old
  | .exact, .new => .new
  | .exact, .lost => .old
  | .exact, .dup => .new

/-- Is the edge counted in the window being drained (40_pulse_counter.md R210)? -/
def countsInOld : Outcome → Bool
  | .old => true
  | .new => false
  | .lost => false
  | .dup => true

/-- Is the edge counted in the next window (40_pulse_counter.md R210)? -/
def countsInNew : Outcome → Bool
  | .old => false
  | .new => true
  | .lost => false
  | .dup => true

/-- A base tick with an edge of channel c at its drain, under the outcome o (40_pulse_counter.md R210). -/
def baseTickEdge (o : Outcome) (c : Chan) (s : State) : State :=
  let p := nextPhase s
  if p = drainPhase s.board.cfg c then
    let n := addEdge (countsInOld o) (s.acc.get c)
    let r := addEdge (countsInNew o) 0
    endTick (drainIf p (otherChan c) (publish c n.toNat { s with wph := BitVec.ofNat 8 p, acc := s.acc.set c r }))
  else baseTick (countEdge c s)

/-- The outcome drawn for the next base tick (40_pulse_counter.md R210, R211). -/
def drawnOutcome (s : State) : Outcome := allowOutcome s.board.cfg.boundarySlop (Config.boundaryDraw s.draws)

/-! ## Lookups -/

/-- The least index of a breakpoint at or below the sample, or the length if there is none (41_adc_sampler.md R252). -/
def breakpointIndex (raw : Nat) : List Nat → Nat
  | [] => 0
  | t :: rest => if t ≤ raw then 0 else breakpointIndex raw rest + 1

/-- TempLookup (41_adc_sampler.md R252, R254, R255). -/
def tempLookup (c : Cfg) (raw : Nat) : Nat :=
  let i := breakpointIndex raw c.tempTable
  if i = 0 then c.tempCold.toNat
  else if i = c.tempTable.length then c.tempHot.toNat
  else
    let hi := c.tempTable.getD (i - 1) 0
    let lo := c.tempTable.getD i 0
    c.tempBase + (c.tempStep * ((i - 1) * (raw - lo) + i * (hi - raw))) / (hi - lo)

/-- clamp (00_scope.md R12). -/
def clamp (v lo hi : Nat) : Nat := min (max v lo) hi

/-- Interp(E, W, B, lo, hi, v) (43_interpolation.md R350, R351). -/
def interp (e : List Nat) (w b lo hi v : Nat) : Nat :=
  let x := clamp v lo hi - b
  let k := x / w
  let r := x % w
  if r = 0 then e.getD k 0 else (e.getD (k + 1) 0 * r + e.getD k 0 * (w - r)) / w

/-- Interp with the RPM channel's parameters (43_interpolation.md R357). -/
def interpRpm (c : Cfg) (v : Nat) : Nat := interp c.tabRpm c.wRpm 0 0 (c.wRpm * (c.tabRpm.length - 1)) v

/-- Interp with the SPD channel's parameters (43_interpolation.md R357). -/
def interpSpd (c : Cfg) (v : Nat) : Nat := interp c.tabSpd c.wSpd 0 0 (c.wSpd * (c.tabSpd.length - 1)) v

/-- Interp with the TMP channel's parameters (43_interpolation.md R357). -/
def interpTmp (c : Cfg) (v : Nat) : Nat := interp c.tabTmp c.wTmp c.tmpLo c.tmpLo c.tmpHi v

/-- Interp with the FUEL channel's parameters (43_interpolation.md R357). -/
def interpFuel (c : Cfg) (v : Nat) : Nat := interp c.tabFuel c.wFuel c.fuelLo c.fuelLo c.fuelHi v

/-- FUEL_TO_PCT (00_scope.md R9, 43_interpolation.md R366; log 10). -/
def fuelPct (c : Cfg) (v : Nat) : Nat := c.fuelToPct.getD v v

/-! ## Square wave and PWM -/

/-- SwgStep of one channel on the disabled sentinel, its half-period, count and level: the new count and level
(42_waveform.md R301). -/
def swgNext (disabled hp wcnt : Half) (fout : Bool) : Half × Bool :=
  if wcnt = disabled then (hp, fout)
  else if wcnt - 1 = 0 then
    if hp = disabled then (disabled, fout) else (hp, !fout)
  else (wcnt - 1, fout)

/-- SwgStep(c) (42_waveform.md R301). -/
def swgStep (c : Chan) (s : State) : State :=
  let n := swgNext s.board.cfg.hpDisabled (s.hp.get c) (s.wcnt.get c) (s.fout.get c)
  { s with wcnt := s.wcnt.set c n.1, fout := s.fout.set c n.2 }

/-- SetCmp(c, v) (44_pwm.md R402). -/
def setCmp (c : Chan) (v : Half) (s : State) : State :=
  { s with
    cmp := s.cmp.set c v
    cmpAct := if s.board.cfg.pwmUpdate = .immediate then s.cmpAct.set c v else s.cmpAct }

/-- One tick of the PWM timer (44_pwm.md R400, R401). -/
def pwmTick (s : State) : State :=
  if s.pcnt.toNat = s.board.cfg.pwmTop then
    { s with pcnt := 0, cmpAct := if s.board.cfg.pwmUpdate = .atWrap then s.cmp else s.cmpAct }
  else { s with pcnt := s.pcnt + 1 }

/-! ## Host register accesses -/

/-- RegRead (46_host_bus.md R501). -/
def regRead (r : HostReg) (s : State) : Half :=
  match r with
  | .rpm => s.rpm
  | .speed => s.speed.setWidth 16
  | .temp => s.temp.setWidth 16
  | .fuel => s.fuel.setWidth 16
  | .status => s.status
  | .acc0 => s.acc.get .ch0
  | .acc1 => s.acc.get .ch1
  | .pcnt => s.pcnt
  | .hp0 => s.hp.get .ch0
  | .hp1 => s.hp.get .ch1
  | .cmp0 => s.cmp.get .ch0
  | .cmp1 => s.cmp.get .ch1
  | .wcnt0 => s.wcnt.get .ch0
  | .wcnt1 => s.wcnt.get .ch1

/-- Write half-period c, or the fault kind of a write of 0 (46_host_bus.md R502, R504). -/
def writeHp (c : Chan) (a : Byte) (v : Half) (s : State) : Except FaultKind State :=
  if v = 0 then .error (.badValue a v) else .ok { s with hp := s.hp.set c v }

/-- RD's access: the value, or the fault kind (46_host_bus.md R500). -/
def busRead (a : Byte) (s : State) : Except FaultKind Half :=
  match HostReg.ofAddr a with
  | none => .error (.busUnmapped a)
  | some r => .ok (regRead r s)

/-- A write to a mapped register: the state after it, or the fault kind of a read-only register (46_host_bus.md R502,
20_memory.md R101, R103). -/
def regWrite (r : HostReg) (a : Byte) (v : Half) (s : State) : Except FaultKind State :=
  match r with
  | .hp0 => writeHp .ch0 a v s
  | .hp1 => writeHp .ch1 a v s
  | .cmp0 => .ok (setCmp .ch0 v s)
  | .cmp1 => .ok (setCmp .ch1 v s)
  | .rpm => .error (.busReadonly a)
  | .speed => .error (.busReadonly a)
  | .temp => .error (.busReadonly a)
  | .fuel => .error (.busReadonly a)
  | .status => .error (.busReadonly a)
  | .acc0 => .error (.busReadonly a)
  | .acc1 => .error (.busReadonly a)
  | .pcnt => .error (.busReadonly a)
  | .wcnt0 => .error (.busReadonly a)
  | .wcnt1 => .error (.busReadonly a)

/-- WR's access: the state after it, or the fault kind, by the priority of 60_exceptions.md R553 (46_host_bus.md
R502). -/
def busWrite (a : Byte) (v : Half) (s : State) : Except FaultKind State :=
  match HostReg.ofAddr a with
  | none => .error (.busUnmapped a)
  | some r => regWrite r a v s

end Sys2Proof.Machine
end

