-- ==== Sys2Proof/Machine/Actuator.lean ====
section
/-! DEFINITION. Interpolation tables: ACT.RPM, ACT.SPD, ACT.TMP, ACT.FUEL (43_interpolation.md). -/

namespace Sys2Proof.Machine

/-- The half-period ACT.RPM computes (R360, R361). -/
def rpmSetpoint (c : Cfg) (v : Half) : Half :=
  if v = 0 then c.hpDisabled else BitVec.ofNat 16 (interpRpm c v.toNat)

/-- The half-period ACT.SPD computes (R362). -/
def spdSetpoint (c : Cfg) (v : Byte) : Half :=
  if v = 0 then c.hpDisabled else BitVec.ofNat 16 (interpSpd c v.toNat)

/-- The compare value ACT.TMP computes (R364). -/
def tmpSetpoint (c : Cfg) (v : Byte) : Half :=
  if v = c.tempCold ∨ v = c.tempHot then c.pwmOff else BitVec.ofNat 16 (interpTmp c v.toNat)

/-- The compare value ACT.FUEL computes (R366). -/
def fuelSetpoint (c : Cfg) (v : Byte) : Half := BitVec.ofNat 16 (interpFuel c (fuelPct c v.toNat))

/-- ACT.RPM v (R360). -/
def execActRpm (v : Half) (s : State) : Host.Outcome State Fault Refusal :=
  .next { s with hp := s.hp.set .ch0 (rpmSetpoint s.board.cfg v) }

/-- ACT.SPD v (R362). -/
def execActSpd (v : Byte) (s : State) : Host.Outcome State Fault Refusal :=
  .next { s with hp := s.hp.set .ch1 (spdSetpoint s.board.cfg v) }

/-- ACT.TMP v (R364). -/
def execActTmp (v : Byte) (s : State) : Host.Outcome State Fault Refusal :=
  .next (setCmp .ch0 (tmpSetpoint s.board.cfg v) s)

/-- ACT.FUEL v (R366). -/
def execActFuel (v : Byte) (s : State) : Host.Outcome State Fault Refusal :=
  .next (setCmp .ch1 (fuelSetpoint s.board.cfg v) s)

end Sys2Proof.Machine
end

