-- ==== Sys2Proof/Machine/Adc.lean ====
section
/-! DEFINITION. ADC round-robin sampler: ADCDONE (41_adc_sampler.md). -/

namespace Sys2Proof.Machine

/-- Publish the sample of the channel whose conversion ended and select the other (R250, R251, R256). -/
def publishSample (x : Byte) (s : State) : State :=
  match s.adcSel with
  | .temperature => { s with temp := BitVec.ofNat 8 (tempLookup s.board.cfg x.toNat), adcSel := .fuel }
  | .fuel => { s with fuel := x, adcSel := .temperature }

/-- ADCDONE d: the conversion in progress is complete with result d (R250). -/
def execAdcdone (d : Half) (s : State) : Host.Outcome State Fault Refusal := .next (publishSample (adcSample d) s)

end Sys2Proof.Machine
end

