-- ==== Sys2Proof/Machine/Gate.lean ====
section
/-! DEFINITION. Threshold-gated passthrough: OILIN, GATE (45_gate.md). -/

namespace Sys2Proof.Machine

/-- OILIN l: the oil-pressure pin now has level l (R450). -/
def execOilin (l : Bool) (s : State) : Host.Outcome State Fault Refusal := .next { s with oilPin := l }

/-- Is the engine inferred running: rpm strictly above the threshold (R452)? -/
def engineRunning (s : State) : Bool := decide (s.board.cfg.gateThreshold < s.rpm.toNat)

/-- GATE: evaluate the gate and latch the lamp (R452). -/
def execGate (s : State) : Host.Outcome State Fault Refusal :=
  .next { s with armed := engineRunning s, lamp := engineRunning s && s.oilPin }

end Sys2Proof.Machine
end

