-- ==== Sys2Proof/Machine/HostBus.lean ====
section
/-! DEFINITION. Host operations on the register space and RESET: RD, WR, RESET (46_host_bus.md). -/

namespace Sys2Proof.Machine

/-- RD a: the response is the register's value (R500, R501), or a recorded fault (20_memory.md R103). -/
def execRd (a : Byte) (s : State) : Host.Outcome State Fault Refusal :=
  .next (match busRead a s with
    | .ok x => { s with response := some x }
    | .error k => recordFault k (encode (.rd a)) s)

/-- WR a, v: write the register (R502), or a recorded fault (20_memory.md R103, 46_host_bus.md R504). -/
def execWr (a : Byte) (v : Half) (s : State) : Host.Outcome State Fault Refusal :=
  .next (match busWrite a v s with
    | .ok t => t
    | .error k => recordFault k (encode (.wr a v)) s)

/-- ResetState over a state: every field of 70_reset_and_hazards.md R600; the oil pin, the fault list, the board and the
model's own fields are not in it and are kept. -/
def resetState (s : State) : State :=
  { s with
    acc := ⟨0, 0⟩, rpm := 0, wph := 0, speed := 0
    temp := s.board.cfg.tempCold, adcSel := .temperature, fuel := 0
    hp := ⟨s.board.cfg.hpDisabled, s.board.cfg.hpDisabled⟩
    wcnt := ⟨s.board.cfg.hpDisabled, s.board.cfg.hpDisabled⟩
    fout := ⟨false, false⟩
    cmp := ⟨s.board.cfg.pwmOff, s.board.cfg.pwmOff⟩
    cmpAct := ⟨s.board.cfg.pwmOff, s.board.cfg.pwmOff⟩
    pcnt := 0, lamp := false, armed := false }

/-- RESET (R506). -/
def execReset (s : State) : Host.Outcome State Fault Refusal := .next (resetState s)

end Sys2Proof.Machine
end

