-- ==== Sys2Proof/Machine/Pulse.lean ====
section
/-! DEFINITION. Pulse-edge counter: EDGE, BTICK, BTICKE (40_pulse_counter.md). -/

namespace Sys2Proof.Machine

/-- EDGE c: a qualifying edge on pulse input c (R200). -/
def execEdge (c : Chan) (s : State) : Host.Outcome State Fault Refusal := .next (countEdge c s)

/-- BTICK: one tick of the measurement base tick (R202). -/
def execBtick (s : State) : Host.Outcome State Fault Refusal := .next (baseTick s)

/-- BTICKE c: a base tick with an edge of channel c inside the drain, its outcome drawn (R210, R211). -/
def execBticke (c : Chan) (s : State) : Host.Outcome State Fault Refusal := .next (baseTickEdge (drawnOutcome s) c s)

end Sys2Proof.Machine
end

