-- ==== Sys2Proof/Machine/Wave.lean ====
section
/-! DEFINITION. Square-wave generator and PWM timer: WTICK (42_waveform.md), PTICK (44_pwm.md). -/

namespace Sys2Proof.Machine

/-- WTICK: one tick of the waveform timer; both channels step (42_waveform.md R300). -/
def execWtick (s : State) : Host.Outcome State Fault Refusal := .next (swgStep .ch1 (swgStep .ch0 s))

/-- PTICK: one tick of the PWM timer (44_pwm.md R400). -/
def execPtick (s : State) : Host.Outcome State Fault Refusal := .next (pwmTick s)

end Sys2Proof.Machine
end

