-- ==== Sys2Proof/Machine/Dispatch.lean ====
section
/-! DEFINITION. One arm per operation of 30_encoding.md R154. -/

namespace Sys2Proof.Machine

def exec (i : Instr) (s : State) : Host.Outcome State Fault Refusal :=
  match i with
  | .edge c => Sys2Proof.Machine.execEdge c s
  | .btick => Sys2Proof.Machine.execBtick s
  | .bticke c => Sys2Proof.Machine.execBticke c s
  | .adcdone d => Sys2Proof.Machine.execAdcdone d s
  | .wtick => Sys2Proof.Machine.execWtick s
  | .ptick => Sys2Proof.Machine.execPtick s
  | .oilin l => Sys2Proof.Machine.execOilin l s
  | .rd a => Sys2Proof.Machine.execRd a s
  | .wr a v => Sys2Proof.Machine.execWr a v s
  | .actRpm v => Sys2Proof.Machine.execActRpm v s
  | .actSpd v => Sys2Proof.Machine.execActSpd v s
  | .actTmp v => Sys2Proof.Machine.execActTmp v s
  | .actFuel v => Sys2Proof.Machine.execActFuel v s
  | .gate => Sys2Proof.Machine.execGate s
  | .reset => Sys2Proof.Machine.execReset s

end Sys2Proof.Machine
end

