-- ==== Sys2Proof/Machine/Step.lean ====
section
/-! DEFINITION. One step: perform the oldest operation word presented. -/

namespace Sys2Proof.Machine

/-- One step of the block (20_memory.md R115): take the oldest word presented and perform it; a word that does not
decode is the fault ILLEGAL (30_encoding.md R156). With nothing presented the block holds its state (60_exceptions.md
R576, R583; log 2). -/
def step (s : State) : Host.Outcome State Fault Refusal :=
  match takeWord s with
  | none => .next s
  | some (w, t) =>
    match decode w with
    | .ok i => exec i t
    | .error _ => .next (illegalWord w t)

/-- The state with the word w of `nbits` bits (zeros above them) presented first, so that the next step performs it. -/
def State.withFetchWord (s : State) (nbits w : Nat) : State := presentWord (BitVec.ofNat 32 (w % 2 ^ nbits)) s

end Sys2Proof.Machine
end

