-- ==== Sys2Proof/Safety.lean ====
section
/-! DEFINITION. What claims are stated in: a good state, the invariants of 10_state.md R73, running a sequence of
operations, and who may issue an operation. -/

namespace Sys2Proof.Machine

/-- No fault is recorded: only such a state is a good final state of a run (60_exceptions.md R552). -/
def State.good (s : State) : Bool := s.faults.isEmpty

/-- The legal values of temp (10_state.md R57): a sentinel, or the degrees between the first and the last breakpoint. -/
def legalTemp (c : Cfg) (t : Byte) : Prop :=
  t = c.tempCold ∨ t = c.tempHot ∨
    (c.tempBase ≤ t.toNat ∧ t.toNat ≤ c.tempBase + c.tempStep * (c.tempTable.length - 1))

/-- The invariants of every reachable state (10_state.md R73). -/
structure State.Inv (s : State) : Prop where
  wcnt_pos : ∀ c, 1 ≤ (s.wcnt.get c).toNat
  hp_pos : ∀ c, 1 ≤ (s.hp.get c).toNat
  pcnt_le : s.pcnt.toNat ≤ s.board.cfg.pwmTop
  wph_lt : s.wph.toNat < s.board.cfg.windowTicks
  temp_legal : legalTemp s.board.cfg s.temp
  lamp_gated : s.armed = false → s.lamp = false

/-- Perform a sequence of operations, oldest first; none if one of them does not answer a next state. -/
def perform : List Instr → State → Option State
  | [], s => some s
  | i :: rest, s =>
    match exec i s with
    | .next t => perform rest t
    | .fault _ => none
    | .refused _ => none

/-- The host operations (46_host_bus.md R507); the others are the event operations of pins, timers and ADC. -/
def hostOperation : Instr → Bool
  | .edge _ => false
  | .btick => false
  | .bticke _ => false
  | .adcdone _ => false
  | .wtick => false
  | .ptick => false
  | .oilin _ => false
  | .rd _ => true
  | .wr _ _ => true
  | .actRpm _ => true
  | .actSpd _ => true
  | .actTmp _ => true
  | .actFuel _ => true
  | .gate => true
  | .reset => true

end Sys2Proof.Machine
end

