-- ==== Sys2Proof/Certificates/Slice0/Obligations.lean ====
section
/-! DEFINITION. The statements for the provers. Each docstring names the rules of spec/ it formalises. A statement
quantifies over states, so over every configuration a board can carry. -/

namespace Sys2Proof.Slice0

open Sys2Proof Sys2Proof.Machine

/-- What a drain of channel c with the count n publishes: the rate if it fits the register, else the draw
(40_pulse_counter.md R204, R205, R206, R207). -/
def Published (c : Chan) (n : Nat) (s t : State) : Prop :=
  match c with
  | .ch0 => ∀ x, x = n * s.board.cfg.rpmMul / s.board.cfg.rpmDiv →
      (x < 2 ^ 16 → t.rpm.toNat = x) ∧ (2 ^ 16 ≤ x → t.rpm = Config.rpmDraw s.draws)
  | .ch1 => ∀ x, x = n * s.board.cfg.spdMul / s.board.cfg.spdDiv →
      (x < 2 ^ 8 → t.speed.toNat = x) ∧ (2 ^ 8 ≤ x → t.speed = Config.speedDraw s.draws)

/-- The published rate of channel c is unchanged. -/
def RateKept (c : Chan) (s t : State) : Prop :=
  match c with
  | .ch0 => t.rpm = s.rpm
  | .ch1 => t.speed = s.speed

/-- Channel c at a base tick that reaches phase p: drained if p is its phase, else unchanged (40_pulse_counter.md R202). -/
def DrainedAt (p : Nat) (c : Chan) (s t : State) : Prop :=
  (p = drainPhase s.board.cfg c → t.acc.get c = 0 ∧ Published c (s.acc.get c).toNat s t) ∧
  (p ≠ drainPhase s.board.cfg c → t.acc.get c = s.acc.get c ∧ RateKept c s t)

/-- y is the bucket interpolation of v: with the clamped value at offset w * k + r from the base, entry k when r is 0,
else the floor of the weighted mean of entries k and k + 1 (43_interpolation.md R350, R351). -/
def Interpolates (e : List Nat) (w b lo hi v y : Nat) : Prop :=
  ∀ k r, min (max v lo) hi - b = w * k + r → r < w →
    y = if r = 0 then e.getD k 0 else (e.getD (k + 1) 0 * r + e.getD k 0 * (w - r)) / w

/-- The state after a fault: the record appended, no read value, nothing else (60_exceptions.md R552). -/
def faulted (r : FaultRecord) (s : State) : State := { s with faults := s.faults ++ [r], response := none }

/-- The host address of a half-period setpoint (20_memory.md R101). -/
def hpAddr : Chan → Byte
  | .ch0 => 0x08
  | .ch1 => 0x09

/-- The content of every host register at its address (20_memory.md R101, 46_host_bus.md R501). -/
def registerFile (s : State) : List (Byte × Half) :=
  [ (0x00, s.rpm), (0x01, s.speed.setWidth 16), (0x02, s.temp.setWidth 16), (0x03, s.fuel.setWidth 16),
    (0x04, s.status), (0x05, s.acc.ch0), (0x06, s.acc.ch1), (0x07, s.pcnt), (0x08, s.hp.ch0), (0x09, s.hp.ch1),
    (0x0A, s.cmp.ch0), (0x0B, s.cmp.ch1), (0x0C, s.wcnt.ch0), (0x0D, s.wcnt.ch1) ]

/-- The register names of the assembler and their addresses (30_encoding.md R158, 20_memory.md R101). -/
def registerNames : List (HostReg × Nat) :=
  [ (.rpm, 0x00), (.speed, 0x01), (.temp, 0x02), (.fuel, 0x03), (.status, 0x04), (.acc0, 0x05), (.acc1, 0x06),
    (.pcnt, 0x07), (.hp0, 0x08), (.hp1, 0x09), (.cmp0, 0x0A), (.cmp1, 0x0B), (.wcnt0, 0x0C), (.wcnt1, 0x0D) ]

/-- Every two neighbours of the table are related. -/
def Neighbours (r : Nat → Nat → Prop) (e : List Nat) : Prop :=
  ∀ k, k + 1 < e.length → r (e.getD k 0) (e.getD (k + 1) 0)

/-- The rules (c1) to (c10) of 00_scope.md R10, in their order, with the degrees of (c2) below `hot` and the half-periods
of (c4) below `disabled`: 255 and 0xFFFF make them the rule's bounds 254 and 0xFFFE. -/
def ConfigurationRules (hot disabled : Nat) (c : Cfg) : Prop :=
  (2 ≤ c.tempTable.length ∧ Neighbours (fun a b => a > b) c.tempTable ∧ ∀ t ∈ c.tempTable, t ≤ 255) ∧
  c.tempBase + c.tempStep * (c.tempTable.length - 1) < hot ∧
  (∀ e w, (e, w) ∈ [(c.tabRpm, c.wRpm), (c.tabSpd, c.wSpd), (c.tabTmp, c.wTmp), (c.tabFuel, c.wFuel)] →
    2 ≤ e.length ∧ (∀ x ∈ e, x ≤ 0xFFFF) ∧ 1 ≤ w) ∧
  (∀ x ∈ c.tabRpm ++ c.tabSpd, 1 ≤ x ∧ x < disabled) ∧
  Neighbours (fun a b => a ≥ b) c.tabRpm ∧
  c.tmpLo + c.wTmp * (c.tabTmp.length - 1) = c.tmpHi ∧
  c.fuelLo + c.wFuel * (c.tabFuel.length - 1) = c.fuelHi ∧
  (Neighbours (fun a b => a < b ∧ c.wFuel ≤ b - a) c.tabFuel ∨ Neighbours (fun a b => b < a ∧ c.wFuel ≤ a - b) c.tabFuel) ∧
  (1 ≤ c.rpmDiv ∧ 1 ≤ c.spdDiv ∧ 1 ≤ c.windowTicks ∧ c.phase0 < c.windowTicks ∧ c.phase1 < c.windowTicks ∧
    (c.phase0 ≠ c.phase1 ∨ c.windowTicks = 1) ∧ c.windowTicks ≤ 256) ∧
  (1 ≤ c.pwmTop ∧ c.pwmTop ≤ 0xFFFF)

/-- How many edges of channel c the sequence delivers: its EDGE and BTICKE operations (40_pulse_counter.md R212). -/
def edgesOf (c : Chan) (ops : List Instr) : Nat := ops.countP (fun i => i == .edge c || i == .bticke c)

/-- The published rate of channel c. -/
def rateOf (c : Chan) (s : State) : Nat :=
  match c with
  | .ch0 => s.rpm.toNat
  | .ch1 => s.speed.toNat

/-- FUEL_TO_PCT on the sample v: the empty list is the identity, and a list gives its entry v (43_interpolation.md R366,
log 10). -/
def FuelScaling (c : Cfg) (v : Nat) : Prop :=
  (c.fuelToPct = [] → fuelPct c v = v) ∧ ∀ x, c.fuelToPct[v]? = some x → fuelPct c v = x

/-- How many base ticks the sequence holds. -/
def baseTicksOf (ops : List Instr) : Nat := ops.countP (fun i => i == .btick || i == .bticke .ch0 || i == .bticke .ch1)

/-- Is the operation an ADC completion? -/
def isAdcdone : Instr → Bool
  | .adcdone _ => true
  | _ => false

/-- The count that one operation drains from channel c (40_pulse_counter.md R206, R207, R210). -/
def drainedBy (c : Chan) (i : Instr) (s : State) : Nat :=
  if (s.wph.toNat + 1) % s.board.cfg.windowTicks = drainPhase s.board.cfg c then
    if i = .btick ∨ i = .bticke (otherChan c) then (s.acc.get c).toNat
    else if i = .bticke c then
      (s.acc.get c).toNat + if drawnOutcome s = .old ∨ drawnOutcome s = .dup then 1 else 0
    else 0
  else 0

/-- The sum of the counts drained from channel c over a sequence. -/
def totalDrained (c : Chan) : List Instr → State → Nat
  | [], _ => 0
  | i :: rest, s =>
    drainedBy c i s +
      match exec i s with
      | .next t => totalDrained c rest t
      | .fault _ => 0
      | .refused _ => 0

/-- How many edges of channel c fall inside a drain of channel c over a sequence: its BTICKE operations at the ticks that
reach the phase of c (40_pulse_counter.md R210). -/
def edgesInDrain (c : Chan) : List Instr → State → Nat
  | [], _ => 0
  | i :: rest, s =>
    (if i = .bticke c ∧ (s.wph.toNat + 1) % s.board.cfg.windowTicks = drainPhase s.board.cfg c then 1 else 0) +
      match exec i s with
      | .next t => edgesInDrain c rest t
      | .fault _ => 0
      | .refused _ => 0

end Sys2Proof.Slice0

open Sys2Proof Sys2Proof.Machine Sys2Proof.Slice0

/-! ## Reset -/

/-- R600, R601: the first state is ResetState with the drawn pin level and no faults; the machine's reset state is that
of its board and its draw, with the source's sentinels in it. -/
def Obligations.PowerOnGivesResetState : Prop :=
  (∀ (b : Board) (l : Bool), ∃ s, s = State.powerOn b l ∧ s.board = b ∧ s.acc = ⟨0, 0⟩ ∧ s.rpm = 0 ∧ s.wph = 0 ∧
    s.speed = 0 ∧ s.temp = b.cfg.tempCold ∧ s.adcSel = .temperature ∧ s.fuel = 0 ∧
    s.hp = ⟨b.cfg.hpDisabled, b.cfg.hpDisabled⟩ ∧ s.wcnt = ⟨b.cfg.hpDisabled, b.cfg.hpDisabled⟩ ∧ s.fout = ⟨false, false⟩ ∧ s.cmp = ⟨b.cfg.pwmOff, b.cfg.pwmOff⟩ ∧
    s.cmpAct = ⟨b.cfg.pwmOff, b.cfg.pwmOff⟩ ∧ s.pcnt = 0 ∧ s.oilPin = l ∧ s.lamp = false ∧ s.armed = false ∧
    s.faults = [] ∧
    (b.cfg.sourceFixed = true → s.temp = 0 ∧ s.hp = ⟨0xFFFF, 0xFFFF⟩ ∧ s.wcnt = ⟨0xFFFF, 0xFFFF⟩)) ∧
  State.reset = State.powerOn Config.board.board Config.oilPinInit ∧
  State.reset.temp = 0 ∧ State.reset.hp = ⟨0xFFFF, 0xFFFF⟩ ∧ State.reset.wcnt = ⟨0xFFFF, 0xFFFF⟩

/-- R506: RESET gives ResetState, keeps the oil pin and the fault list; twice is once. (What it does to the model's own
fields is `ModelFieldsAtResetAndThroughOperations`.) -/
def Obligations.ResetKeepsPinAndFaults : Prop :=
  ∀ s : State, ∃ t, exec .reset s = .next t ∧
    t = { State.powerOn s.board s.oilPin with
          faults := s.faults, pending := t.pending, response := t.response, draws := t.draws } ∧
    exec .reset t = .next t

/-- The model's own fields, by the log and not by a rule: after reset nothing is pending, no response stands and no draw
is made (log 2, 4, 5); no operation takes or adds a pending word; a base tick moves on to the next draws and nothing else
does; only RD gives a response. -/
def Obligations.ModelFieldsAtResetAndThroughOperations : Prop :=
  (State.reset.pending = [] ∧ State.reset.response = none ∧ State.reset.draws = 0) ∧
  ∀ (i : Instr) (s : State), ∃ t, exec i s = .next t ∧ t.pending = s.pending ∧
    t.draws = (if i = .btick ∨ i = .bticke .ch0 ∨ i = .bticke .ch1 then s.draws + 1 else s.draws) ∧
    (s.response = none → (∀ a, i ≠ .rd a) → t.response = none)

/-! ## Pulse-edge counter -/

/-- R200: EDGE c adds one to acc[c] modulo 2^16 and changes nothing else. -/
def Obligations.EdgeCountsOneOnItsChannel : Prop :=
  ∀ (c : Chan) (s : State), ∃ t, exec (.edge c) s = .next t ∧
    (t.acc.get c).toNat = ((s.acc.get c).toNat + 1) % 2 ^ 16 ∧
    t.acc.get (otherChan c) = s.acc.get (otherChan c) ∧
    t = { s with acc := t.acc }

/-- R202, R204, R205, R206, R207: BTICK advances the phase and drains the channels whose phase it reaches, and changes
nothing else. (The index of the model's draws is log 5's.) -/
def Obligations.BtickAdvancesPhaseAndDrains : Prop :=
  ∀ s : State, ∃ t, exec .btick s = .next t ∧
    t.wph.toNat = (s.wph.toNat + 1) % s.board.cfg.windowTicks ∧
    (∀ c, DrainedAt ((s.wph.toNat + 1) % s.board.cfg.windowTicks) c s t) ∧
    t = { s with acc := t.acc, rpm := t.rpm, speed := t.speed, wph := t.wph, draws := t.draws }

/-- R208: a window with zero pulses publishes zero, whatever the configuration, and no drain raises a fault, at a plain
base tick and at one with an edge: the other channel drained empty publishes zero, and so does the edge's own channel when
it is drained empty and the outcome, the drawn one or any other, leaves the edge out of the drained window. -/
def Obligations.EmptyWindowPublishesZero : Prop :=
  (∀ s : State, ∃ t, exec .btick s = .next t ∧ t.faults = s.faults ∧
    ∀ c, (s.wph.toNat + 1) % s.board.cfg.windowTicks = drainPhase s.board.cfg c → s.acc.get c = 0 → rateOf c t = 0) ∧
  (∀ (c : Chan) (s : State), ∃ t, exec (.bticke c) s = .next t ∧ t = baseTickEdge (drawnOutcome s) c s ∧
    t.faults = s.faults ∧
    ((s.wph.toNat + 1) % s.board.cfg.windowTicks = drainPhase s.board.cfg (otherChan c) →
      s.acc.get (otherChan c) = 0 → rateOf (otherChan c) t = 0) ∧
    ((s.wph.toNat + 1) % s.board.cfg.windowTicks = drainPhase s.board.cfg c → s.acc.get c = 0 →
      ∀ o, o = .new ∨ o = .lost → rateOf c (baseTickEdge o c s) = 0))

/-- R204, R205, R213 at the source's constants: a count below 1180 publishes n * 1000 / 18 exactly, so 18 pulses give
1000 and 36 give 2000; a count below 256 is the speed. -/
def Obligations.SourceRateLaw : Prop :=
  ∀ s : State, s.board.cfg.sourceFixed = true → ∃ t, exec .btick s = .next t ∧
    ((s.wph.toNat + 1) % 4 = s.board.cfg.phase0 → s.acc.ch0.toNat < 1180 →
      t.rpm.toNat = s.acc.ch0.toNat * 1000 / 18 ∧ (s.acc.ch0 = 18 → t.rpm = 1000) ∧ (s.acc.ch0 = 36 → t.rpm = 2000)) ∧
    ((s.wph.toNat + 1) % 4 = s.board.cfg.phase1 → s.acc.ch1.toNat < 256 → t.speed.toNat = s.acc.ch1.toNat)

/-- R210, R211: BTICKE c. At a tick that does not drain c the edge counts and the tick follows. At a drain of c the edge
falls in the old window, the new one, neither or both by an outcome that BOUNDARY_SLOP allows, under TOLERANT the draw
itself; the other channel drains if its phase is reached too. -/
def Obligations.BtickeCountsEdgeByOutcome : Prop :=
  ∀ (c : Chan) (s : State), ∃ t o, exec (.bticke c) s = .next t ∧
    (s.board.cfg.boundarySlop = .exact → o = Outcome.old ∨ o = Outcome.new) ∧
    (s.board.cfg.boundarySlop = .tolerant → o = Config.boundaryDraw s.draws) ∧
    ((s.wph.toNat + 1) % s.board.cfg.windowTicks ≠ drainPhase s.board.cfg c →
      perform [.edge c, .btick] s = some t) ∧
    ((s.wph.toNat + 1) % s.board.cfg.windowTicks = drainPhase s.board.cfg c →
      t.wph.toNat = (s.wph.toNat + 1) % s.board.cfg.windowTicks ∧
      t.acc.get c = (if o = .new ∨ o = .dup then 1 else 0) ∧
      Published c (((s.acc.get c).toNat + if o = .old ∨ o = .dup then 1 else 0) % 2 ^ 16) s t ∧
      DrainedAt ((s.wph.toNat + 1) % s.board.cfg.windowTicks) (otherChan c) s t ∧
      t = { s with acc := t.acc, rpm := t.rpm, speed := t.speed, wph := t.wph, draws := t.draws })

/-- R210, corner case: under EXACT, BTICKE c is EDGE c before BTICK or after it, and the two outcomes are these two
orders. -/
def Obligations.ExactBtickeIsOneOfTwoOrders : Prop :=
  ∀ (c : Chan) (s : State),
    (s.board.cfg.boundarySlop = .exact → ∃ t, exec (.bticke c) s = .next t ∧
      (perform [.edge c, .btick] s = some t ∨ perform [.btick, .edge c] s = some t)) ∧
    ((s.wph.toNat + 1) % s.board.cfg.windowTicks = drainPhase s.board.cfg c →
      perform [.edge c, .btick] s = some (baseTickEdge .old c s) ∧
      perform [.btick, .edge c] s = some (baseTickEdge .new c s))

/-- R212: over any sequence of operations without RESET and too short to wrap the accumulator, the counts drained and
left are the edges delivered: exactly if no edge of the channel fell inside one of its drains or BOUNDARY_SLOP is EXACT,
else within one for each edge that did. -/
def Obligations.DrainedCountsMatchEdgesWithinSlop : Prop :=
  ∀ (c : Chan) (ops : List Instr) (s t : State), Instr.reset ∉ ops → perform ops s = some t →
    (s.acc.get c).toNat + edgesOf c ops < 2 ^ 16 →
    ((s.board.cfg.boundarySlop = .exact ∨ edgesInDrain c ops s = 0) →
      totalDrained c ops s + (t.acc.get c).toNat = (s.acc.get c).toNat + edgesOf c ops) ∧
    totalDrained c ops s + (t.acc.get c).toNat ≤ (s.acc.get c).toNat + edgesOf c ops + edgesInDrain c ops s ∧
    (s.acc.get c).toNat + edgesOf c ops ≤ totalDrained c ops s + (t.acc.get c).toNat + edgesInDrain c ops s

/-- R203: the phase counts the base ticks modulo WINDOW_TICKS, whatever else happens between them (without RESET). -/
def Obligations.PhaseCountsBaseTicks : Prop :=
  ∀ (ops : List Instr) (s t : State), Instr.reset ∉ ops → s.wph.toNat < s.board.cfg.windowTicks →
    perform ops s = some t →
    t.wph.toNat = (s.wph.toNat + baseTicksOf ops) % s.board.cfg.windowTicks

/-! ## ADC sampler -/

/-- R250, R256: ADCDONE publishes the high byte of its operand on the selected channel, through the lookup for the
temperature and raw for the fuel, selects the other channel and changes nothing else. -/
def Obligations.AdcdonePublishesSelectedChannel : Prop :=
  ∀ (d : Half) (s : State), ∃ t, exec (.adcdone d) s = .next t ∧
    (s.adcSel = .temperature →
      t.temp.toNat = tempLookup s.board.cfg (d.toNat / 256) ∧ t = { s with temp := t.temp, adcSel := .fuel }) ∧
    (s.adcSel = .fuel →
      t.fuel.toNat = d.toNat / 256 ∧ t = { s with fuel := t.fuel, adcSel := .temperature })

/-- R252, R254: the lookup by the breakpoints themselves: the cold sentinel at or above the first, the hot one below the
last, else the interpolation between the two around the sample. -/
def Obligations.TempLookupFollowsBreakpoints : Prop :=
  ∀ (b : Board) (raw : Nat),
    (b.cfg.tempTable.getD 0 0 ≤ raw → tempLookup b.cfg raw = b.cfg.tempCold.toNat) ∧
    (raw < b.cfg.tempTable.getD (b.cfg.tempTable.length - 1) 0 → tempLookup b.cfg raw = b.cfg.tempHot.toNat) ∧
    (∀ i, 1 ≤ i → i < b.cfg.tempTable.length → b.cfg.tempTable.getD i 0 ≤ raw → raw < b.cfg.tempTable.getD (i - 1) 0 →
      tempLookup b.cfg raw = b.cfg.tempBase +
        b.cfg.tempStep * ((i - 1) * (raw - b.cfg.tempTable.getD i 0) + i * (b.cfg.tempTable.getD (i - 1) 0 - raw)) /
          (b.cfg.tempTable.getD (i - 1) 0 - b.cfg.tempTable.getD i 0))

/-- R253: between breakpoints i and i - 1 the result lies between their degrees, is base + step * i less the rounded-up
share of the step, and with the source's base is no sentinel. -/
def Obligations.TempLookupStaysInBucket : Prop :=
  ∀ (b : Board) (raw i : Nat), 1 ≤ i → i < b.cfg.tempTable.length → b.cfg.tempTable.getD i 0 ≤ raw →
    raw < b.cfg.tempTable.getD (i - 1) 0 →
    b.cfg.tempBase + b.cfg.tempStep * (i - 1) ≤ tempLookup b.cfg raw ∧
    tempLookup b.cfg raw ≤ b.cfg.tempBase + b.cfg.tempStep * i ∧
    tempLookup b.cfg raw = b.cfg.tempBase + b.cfg.tempStep * i -
      (b.cfg.tempStep * (raw - b.cfg.tempTable.getD i 0) +
        (b.cfg.tempTable.getD (i - 1) 0 - b.cfg.tempTable.getD i 0 - 1)) /
          (b.cfg.tempTable.getD (i - 1) 0 - b.cfg.tempTable.getD i 0) ∧
    tempLookup b.cfg raw ≠ b.cfg.tempHot.toNat ∧
    (b.cfg.sourceFixed = true → tempLookup b.cfg raw ≠ 0 ∧ tempLookup b.cfg raw ≠ 255)

/-- R259: every breakpoint but the coldest reproduces its degrees; the sentinels beyond the ends; in between a higher
sample is never warmer. -/
def Obligations.TempLookupExactAndNonIncreasing : Prop :=
  ∀ b : Board,
    (∀ k, 1 ≤ k → k < b.cfg.tempTable.length →
      tempLookup b.cfg (b.cfg.tempTable.getD k 0) = b.cfg.tempBase + b.cfg.tempStep * k) ∧
    (∀ raw, b.cfg.tempTable.getD 0 0 ≤ raw → tempLookup b.cfg raw = b.cfg.tempCold.toNat) ∧
    (∀ raw, raw < b.cfg.tempTable.getD (b.cfg.tempTable.length - 1) 0 →
      tempLookup b.cfg raw = b.cfg.tempHot.toNat) ∧
    (∀ raw raw', b.cfg.tempTable.getD (b.cfg.tempTable.length - 1) 0 ≤ raw → raw ≤ raw' →
      raw' < b.cfg.tempTable.getD 0 0 → tempLookup b.cfg raw' ≤ tempLookup b.cfg raw)

/-- R251, R260: the channels alternate: without RESET the selected channel is the first one exactly when an even number
of conversions has completed. -/
def Obligations.ConversionsAlternate : Prop :=
  ∀ (ops : List Instr) (s t : State), Instr.reset ∉ ops → perform ops s = some t →
    (t.adcSel = s.adcSel ↔ ops.countP isAdcdone % 2 = 0)

/-! ## Square-wave generator -/

/-- R300, R301: WTICK steps both channels: reload without a toggle from the sentinel, toggle and reload at the zero
transition unless disabled, else count down; and changes nothing else. -/
def Obligations.WtickStepsBothOutputs : Prop :=
  ∀ s : State, ∃ t, exec .wtick s = .next t ∧ t = { s with wcnt := t.wcnt, fout := t.fout } ∧
    ∀ c,
      (s.wcnt.get c = s.board.cfg.hpDisabled → t.wcnt.get c = s.hp.get c ∧ t.fout.get c = s.fout.get c) ∧
      (s.wcnt.get c = 1 → s.hp.get c = s.board.cfg.hpDisabled →
        t.wcnt.get c = s.board.cfg.hpDisabled ∧ t.fout.get c = s.fout.get c) ∧
      (s.wcnt.get c = 1 → s.hp.get c ≠ s.board.cfg.hpDisabled →
        t.wcnt.get c = s.hp.get c ∧ t.fout.get c = !s.fout.get c) ∧
      (2 ≤ (s.wcnt.get c).toNat → s.wcnt.get c ≠ s.board.cfg.hpDisabled →
        (t.wcnt.get c).toNat = (s.wcnt.get c).toNat - 1 ∧ t.fout.get c = s.fout.get c)

/-- R303: with the half-period h held after a reload, n ticks later the output has toggled n / h times and the count is
h - n % h: a square wave of period 2h. -/
def Obligations.SquareWaveFrequencyLaw : Prop :=
  ∀ (c : Chan) (s : State) (n : Nat), 1 ≤ (s.hp.get c).toNat →
    (s.hp.get c).toNat < s.board.cfg.hpDisabled.toNat →
    s.wcnt.get c = s.hp.get c →
    ∃ t, perform (List.replicate n .wtick) s = some t ∧
      t.fout.get c = (s.fout.get c ^^ decide (n / (s.hp.get c).toNat % 2 = 1)) ∧
      (t.wcnt.get c).toNat = (s.hp.get c).toNat - n % (s.hp.get c).toNat

/-- R305: an output enabled while its count holds the sentinel reloads at the next tick without a toggle, keeps its level
for h ticks and toggles at tick h + 1. -/
def Obligations.EnabledOutputTogglesAfterReload : Prop :=
  ∀ (c : Chan) (s : State) (n : Nat), 1 ≤ (s.hp.get c).toNat →
    (s.hp.get c).toNat < s.board.cfg.hpDisabled.toNat →
    s.wcnt.get c = s.board.cfg.hpDisabled → n ≤ (s.hp.get c).toNat →
    ∃ r t u, perform [.wtick] s = some r ∧ r.wcnt.get c = s.hp.get c ∧ r.fout.get c = s.fout.get c ∧
      perform (List.replicate n .wtick) s = some t ∧ t.fout.get c = s.fout.get c ∧
      perform (List.replicate ((s.hp.get c).toNat + 1) .wtick) s = some u ∧ u.fout.get c = !s.fout.get c

/-- R304: a disabled output never toggles again, and once its count has run out it holds the sentinel. -/
def Obligations.DisabledOutputHoldsItsLevel : Prop :=
  ∀ (c : Chan) (s : State) (n : Nat), s.hp.get c = s.board.cfg.hpDisabled → 1 ≤ (s.wcnt.get c).toNat →
    ∃ t, perform (List.replicate n .wtick) s = some t ∧ t.fout.get c = s.fout.get c ∧
      ((s.wcnt.get c).toNat ≤ n ∨ s.wcnt.get c = s.board.cfg.hpDisabled → t.wcnt.get c = s.board.cfg.hpDisabled)

/-- R302, R621: a half-period written while output c is counting k changes nothing before the reload at tick k; there
the toggle keeps the old schedule (unless the new value disables) and the new value is taken. -/
def Obligations.SetpointTakesEffectAtReload : Prop :=
  ∀ (c : Chan) (s : State) (h : Half) (n : Nat), h ≠ 0 → 1 ≤ (s.wcnt.get c).toNat →
    (s.wcnt.get c).toNat < s.board.cfg.hpDisabled.toNat →
    (n < (s.wcnt.get c).toNat → ∃ t u, perform (.wr (hpAddr c) h :: List.replicate n .wtick) s = some t ∧
      perform (List.replicate n .wtick) s = some u ∧
      t.wcnt.get c = u.wcnt.get c ∧ t.fout.get c = u.fout.get c ∧ t.fout.get c = s.fout.get c) ∧
    (n = (s.wcnt.get c).toNat → ∃ t, perform (.wr (hpAddr c) h :: List.replicate n .wtick) s = some t ∧
      t.wcnt.get c = h ∧ t.fout.get c = if h = s.board.cfg.hpDisabled then s.fout.get c else !s.fout.get c)

/-- R306: whatever operations follow, what output c does depends only on its own half-period, count and level. -/
def Obligations.OutputsNeverInterfere : Prop :=
  ∀ (c : Chan) (ops : List Instr) (s s' t t' : State), s.board = s'.board → s.hp.get c = s'.hp.get c →
    s.wcnt.get c = s'.wcnt.get c → s.fout.get c = s'.fout.get c →
    perform ops s = some t → perform ops s' = some t' →
    t.hp.get c = t'.hp.get c ∧ t.wcnt.get c = t'.wcnt.get c ∧ t.fout.get c = t'.fout.get c

/-! ## PWM -/

/-- R400, R401: PTICK counts up to PWM_TOP and wraps, loading both compare values at the wrap under AT_WRAP; nothing
else changes. -/
def Obligations.PtickCountsAndLoadsAtWrap : Prop :=
  ∀ s : State, ∃ t, exec .ptick s = .next t ∧
    (s.pcnt.toNat = s.board.cfg.pwmTop → s.board.cfg.pwmUpdate = .atWrap →
      t = { s with pcnt := 0, cmpAct := s.cmp }) ∧
    (s.pcnt.toNat = s.board.cfg.pwmTop → s.board.cfg.pwmUpdate = .immediate → t = { s with pcnt := 0 }) ∧
    (s.pcnt.toNat < s.board.cfg.pwmTop → t.pcnt.toNat = s.pcnt.toNat + 1 ∧ t = { s with pcnt := t.pcnt })

/-- R403, R404: with the active compare value m held over a period, output c is high for min(m, PWM_TOP + 1) of its
PWM_TOP + 1 counts, and the period then starts again. -/
def Obligations.PwmDutyLaw : Prop :=
  ∀ (c : Chan) (s : State), s.pcnt = 0 →
    ((List.range (s.board.cfg.pwmTop + 1)).countP fun n =>
      (perform (List.replicate n .ptick) s).any fun t => t.pout c) =
        min (s.cmpAct.get c).toNat (s.board.cfg.pwmTop + 1) ∧
    ∃ t, perform (List.replicate (s.board.cfg.pwmTop + 1) .ptick) s = some t ∧ t.pcnt = 0

/-- R405: under AT_WRAP a written compare value reaches the comparator at the first wrap and not before. -/
def Obligations.CompareValueWaitsForWrap : Prop :=
  ∀ (s : State) (n : Nat), s.board.cfg.pwmUpdate = .atWrap → s.pcnt.toNat ≤ s.board.cfg.pwmTop →
    (s.pcnt.toNat + n ≤ s.board.cfg.pwmTop → ∃ t, perform (List.replicate n .ptick) s = some t ∧
      t.cmpAct = s.cmpAct ∧ t.pcnt.toNat = s.pcnt.toNat + n) ∧
    (s.pcnt.toNat + n = s.board.cfg.pwmTop + 1 → ∃ t, perform (List.replicate n .ptick) s = some t ∧
      t.cmpAct = s.cmp ∧ t.pcnt = 0)

/-! ## Gate -/

/-- R450: OILIN l latches the level and changes nothing else. -/
def Obligations.OilinLatchesLevel : Prop :=
  ∀ (l : Bool) (s : State), exec (.oilin l) s = .next { s with oilPin := l }

/-- R452: GATE arms strictly above the threshold and mirrors the input then, else forces the lamp off; nothing else
changes. -/
def Obligations.GateMirrorsOnlyAboveThreshold : Prop :=
  ∀ s : State,
    (s.rpm.toNat > s.board.cfg.gateThreshold → exec .gate s = .next { s with armed := true, lamp := s.oilPin }) ∧
    (s.rpm.toNat ≤ s.board.cfg.gateThreshold → exec .gate s = .next { s with armed := false, lamp := false })

/-- R455 at the source's threshold 1450. -/
def Obligations.LampFollowsSwitchAbove1450 : Prop :=
  ∀ s : State, s.board.cfg.sourceFixed = true → ∃ t, exec .gate s = .next t ∧
    (s.rpm.toNat ≤ 1450 → t.lamp = false) ∧ (1450 < s.rpm.toNat → t.lamp = s.oilPin) ∧
    (t.armed = false → t.lamp = false)

/-! ## Host register space -/

/-- R500, R501, R108: RD of a mapped address responds with the register's content and changes nothing else. -/
def Obligations.RdReturnsRegister : Prop :=
  ∀ (s : State) (a : Byte) (x : Half), (a, x) ∈ registerFile s → exec (.rd a) s = .next { s with response := some x }

/-- R104: the STATUS word, field by field. -/
def Obligations.StatusWordLayout : Prop :=
  ∀ s : State,
    s.status.getLsbD 0 = s.fout.ch0 ∧ s.status.getLsbD 1 = s.fout.ch1 ∧
    s.status.getLsbD 2 = decide (s.pcnt.toNat < s.cmpAct.ch0.toNat) ∧
    s.status.getLsbD 3 = decide (s.pcnt.toNat < s.cmpAct.ch1.toNat) ∧
    s.status.getLsbD 4 = s.lamp ∧ s.status.getLsbD 5 = s.armed ∧ s.status.getLsbD 6 = s.oilPin ∧
    s.status.getLsbD 7 = decide (s.adcSel = .fuel) ∧ s.status.extractLsb' 8 8 = s.wph

/-- R502, R503, R402: WR of a setpoint: every half-period but 0, every compare value, the active one too under
IMMEDIATE; nothing else changes. -/
def Obligations.WrWritesSetpoint : Prop :=
  ∀ (s : State) (v : Half),
    (v ≠ 0 → exec (.wr 0x08 v) s = .next { s with hp := ⟨v, s.hp.ch1⟩ }) ∧
    (v ≠ 0 → exec (.wr 0x09 v) s = .next { s with hp := ⟨s.hp.ch0, v⟩ }) ∧
    (s.board.cfg.pwmUpdate = .atWrap →
      exec (.wr 0x0A v) s = .next { s with cmp := ⟨v, s.cmp.ch1⟩ } ∧
      exec (.wr 0x0B v) s = .next { s with cmp := ⟨s.cmp.ch0, v⟩ }) ∧
    (s.board.cfg.pwmUpdate = .immediate →
      exec (.wr 0x0A v) s = .next { s with cmp := ⟨v, s.cmp.ch1⟩, cmpAct := ⟨v, s.cmpAct.ch1⟩ } ∧
      exec (.wr 0x0B v) s = .next { s with cmp := ⟨s.cmp.ch0, v⟩, cmpAct := ⟨s.cmpAct.ch0, v⟩ })

/-- R103, R504, R552: the bad accesses record their fault with the word performed and change nothing else. -/
def Obligations.BadAccessRecordsFault : Prop :=
  ∀ (s : State) (a : Byte) (v : Half),
    (0x0E ≤ a.toNat →
      exec (.rd a) s = .next (faulted ⟨.busUnmapped a, BitVec.ofNat 32 (0x10000000 + a.toNat * 65536)⟩ s) ∧
      exec (.wr a v) s =
        .next (faulted ⟨.busUnmapped a, BitVec.ofNat 32 (0x11000000 + a.toNat * 65536 + v.toNat)⟩ s)) ∧
    (a.toNat ≤ 0x07 ∨ a.toNat = 0x0C ∨ a.toNat = 0x0D →
      exec (.wr a v) s =
        .next (faulted ⟨.busReadonly a, BitVec.ofNat 32 (0x11000000 + a.toNat * 65536 + v.toNat)⟩ s)) ∧
    (a.toNat = 0x08 ∨ a.toNat = 0x09 →
      exec (.wr a 0) s = .next (faulted ⟨.badValue a 0, BitVec.ofNat 32 (0x11000000 + a.toNat * 65536)⟩ s))

/-- R118: a WR of a setpoint followed by an RD of it returns the value written. -/
def Obligations.WriteThenReadReturnsValue : Prop :=
  ∀ (s : State) (a : Byte) (v : Half), 0x08 ≤ a.toNat → a.toNat ≤ 0x0B → (a.toNat ≤ 0x09 → v ≠ 0) →
    ∃ t, perform [.wr a v, .rd a] s = some t ∧ t.response = some v

/-! ## Interpolation tables -/

/-- R360, R361, R357: ACT.RPM writes hp[0], the sentinel for 0 and the interpolation otherwise, and nothing else. -/
def Obligations.ActRpmWritesHalfPeriod : Prop :=
  ∀ (v : Half) (s : State), ∃ t, exec (.actRpm v) s = .next t ∧
    t = { s with hp := ⟨t.hp.ch0, s.hp.ch1⟩ } ∧ (v = 0 → t.hp.ch0 = s.board.cfg.hpDisabled) ∧
    (v ≠ 0 → Interpolates s.board.cfg.tabRpm s.board.cfg.wRpm 0 0
      (s.board.cfg.wRpm * (s.board.cfg.tabRpm.length - 1)) v.toNat t.hp.ch0.toNat)

/-- R362, R361, R357: ACT.SPD writes hp[1], the sentinel for 0 and the interpolation otherwise, and nothing else. -/
def Obligations.ActSpdWritesHalfPeriod : Prop :=
  ∀ (v : Byte) (s : State), ∃ t, exec (.actSpd v) s = .next t ∧
    t = { s with hp := ⟨s.hp.ch0, t.hp.ch1⟩ } ∧ (v = 0 → t.hp.ch1 = s.board.cfg.hpDisabled) ∧
    (v ≠ 0 → Interpolates s.board.cfg.tabSpd s.board.cfg.wSpd 0 0
      (s.board.cfg.wSpd * (s.board.cfg.tabSpd.length - 1)) v.toNat t.hp.ch1.toNat)

/-- R364, R357, R402: ACT.TMP writes cmp[0], PWM_OFF for either sentinel and the interpolation otherwise, the active
value too under IMMEDIATE, and nothing else. -/
def Obligations.ActTmpWritesCompare : Prop :=
  ∀ (v : Byte) (s : State), ∃ t, exec (.actTmp v) s = .next t ∧
    t = { s with cmp := ⟨t.cmp.ch0, s.cmp.ch1⟩, cmpAct := t.cmpAct } ∧
    (s.board.cfg.pwmUpdate = .atWrap → t.cmpAct = s.cmpAct) ∧
    (s.board.cfg.pwmUpdate = .immediate → t.cmpAct = ⟨t.cmp.ch0, s.cmpAct.ch1⟩) ∧
    (v = s.board.cfg.tempCold ∨ v = s.board.cfg.tempHot → t.cmp.ch0 = s.board.cfg.pwmOff) ∧
    (v ≠ s.board.cfg.tempCold → v ≠ s.board.cfg.tempHot → Interpolates s.board.cfg.tabTmp s.board.cfg.wTmp
      s.board.cfg.tmpLo s.board.cfg.tmpLo s.board.cfg.tmpHi v.toNat t.cmp.ch0.toNat)

/-- R366, R357, R402: ACT.FUEL writes cmp[1] with the interpolation of the scaled sample (the sample itself by default),
the active value too under IMMEDIATE, and nothing else. -/
def Obligations.ActFuelWritesCompare : Prop :=
  ∀ (v : Byte) (s : State), ∃ t, exec (.actFuel v) s = .next t ∧
    t = { s with cmp := ⟨s.cmp.ch0, t.cmp.ch1⟩, cmpAct := t.cmpAct } ∧
    (s.board.cfg.pwmUpdate = .atWrap → t.cmpAct = s.cmpAct) ∧
    (s.board.cfg.pwmUpdate = .immediate → t.cmpAct = ⟨s.cmpAct.ch0, t.cmp.ch1⟩) ∧
    Interpolates s.board.cfg.tabFuel s.board.cfg.wFuel s.board.cfg.fuelLo s.board.cfg.fuelLo s.board.cfg.fuelHi
      (fuelPct s.board.cfg v.toNat) t.cmp.ch1.toNat ∧
    FuelScaling s.board.cfg v.toNat

/-- Log 10, the model's form of FUEL_TO_PCT: a list entry for each sample, and past the end of the list the sample itself,
so that the empty list is R366's identity. -/
def Obligations.FuelLevelIsEntryOrSample : Prop :=
  ∀ (c : Cfg) (v : Nat),
    (v < c.fuelToPct.length → fuelPct c v = c.fuelToPct.getD v 0) ∧ (c.fuelToPct.length ≤ v → fuelPct c v = v)

/-- R353: an interpolated value lies between its two entries, and the half-periods ACT.RPM and ACT.SPD write for a
non-zero value are never 0 and never the sentinel. -/
def Obligations.InterpolationStaysBetweenEntries : Prop :=
  (∀ (e : List Nat) (w b lo hi v : Nat), 1 ≤ w → (clamp v lo hi - b) % w ≠ 0 →
    min (e.getD ((clamp v lo hi - b) / w) 0) (e.getD ((clamp v lo hi - b) / w + 1) 0) ≤ interp e w b lo hi v ∧
    interp e w b lo hi v ≤ max (e.getD ((clamp v lo hi - b) / w) 0) (e.getD ((clamp v lo hi - b) / w + 1) 0)) ∧
  (∀ (e : List Nat) (w b lo hi v : Nat), (clamp v lo hi - b) % w = 0 →
    interp e w b lo hi v = e.getD ((clamp v lo hi - b) / w) 0) ∧
  (∀ (s : State) (v : Half), v ≠ 0 → ∃ t, exec (.actRpm v) s = .next t ∧
    1 ≤ t.hp.ch0.toNat ∧ t.hp.ch0.toNat ≤ 0xFFFE ∧ t.hp.ch0 ≠ s.board.cfg.hpDisabled) ∧
  (∀ (s : State) (v : Byte), v ≠ 0 → ∃ t, exec (.actSpd v) s = .next t ∧
    1 ≤ t.hp.ch1.toNat ∧ t.hp.ch1.toNat ≤ 0xFFFE ∧ t.hp.ch1 ≠ s.board.cfg.hpDisabled)

/-- R354: a value on a breakpoint gives its entry exactly. -/
def Obligations.BreakpointsReproduceExactly : Prop :=
  ∀ (e : List Nat) (w b lo hi k : Nat), 1 ≤ w → lo ≤ b + w * k → b + w * k ≤ hi →
    interp e w b lo hi (b + w * k) = e.getD k 0

/-- R355: the half-period ACT.RPM writes never increases with the engine speed, on all of 0..0xFFFF. -/
def Obligations.RpmHalfPeriodNonIncreasing : Prop :=
  ∀ (s : State) (v v' : Half), v.toNat ≤ v'.toNat → ∃ t t', exec (.actRpm v) s = .next t ∧
    exec (.actRpm v') s = .next t' ∧ t'.hp.ch0.toNat ≤ t.hp.ch0.toNat

/-- R356, R352: the ends of the fuel domain, and every level beyond them, give the outermost entries; a level strictly
inside a bucket gives a value strictly between its entries. -/
def Obligations.FuelEndsAndInteriors : Prop :=
  ∀ (s : State) (v : Byte), ∃ t, exec (.actFuel v) s = .next t ∧ FuelScaling s.board.cfg v.toNat ∧
    (fuelPct s.board.cfg v.toNat ≤ s.board.cfg.fuelLo → t.cmp.ch1.toNat = s.board.cfg.tabFuel.getD 0 0) ∧
    (s.board.cfg.fuelHi ≤ fuelPct s.board.cfg v.toNat →
      t.cmp.ch1.toNat = s.board.cfg.tabFuel.getD (s.board.cfg.tabFuel.length - 1) 0) ∧
    (∀ k r, fuelPct s.board.cfg v.toNat = s.board.cfg.fuelLo + s.board.cfg.wFuel * k + r → 1 ≤ r →
      r < s.board.cfg.wFuel → fuelPct s.board.cfg v.toNat ≤ s.board.cfg.fuelHi →
      min (s.board.cfg.tabFuel.getD k 0) (s.board.cfg.tabFuel.getD (k + 1) 0) < t.cmp.ch1.toNat ∧
      t.cmp.ch1.toNat < max (s.board.cfg.tabFuel.getD k 0) (s.board.cfg.tabFuel.getD (k + 1) 0))

/-- R368: what the ACT operations write depends only on the operand and the configuration. -/
def Obligations.ActWritesDependOnOperandOnly : Prop :=
  ∀ (s s' : State), s.board = s'.board →
    (∀ v t t', exec (.actRpm v) s = .next t → exec (.actRpm v) s' = .next t' → t.hp.ch0 = t'.hp.ch0) ∧
    (∀ v t t', exec (.actSpd v) s = .next t → exec (.actSpd v) s' = .next t' → t.hp.ch1 = t'.hp.ch1) ∧
    (∀ v t t', exec (.actTmp v) s = .next t → exec (.actTmp v) s' = .next t' → t.cmp.ch0 = t'.cmp.ch0) ∧
    (∀ v t t', exec (.actFuel v) s = .next t → exec (.actFuel v) s' = .next t' → t.cmp.ch1 = t'.cmp.ch1)

/-! ## Encoding -/

/-- R152, R154: decoding an encoded operation gives it back, whatever its operands. -/
def Obligations.DecodeInvertsEncode : Prop :=
  ∀ i : Instr, decode (encode i) = .ok i

/-- R152, R154: a word that decodes is the encoding of its operation: no operand bit is dropped. -/
def Obligations.EncodeInvertsDecode : Prop :=
  ∀ (w : Word) (i : Instr), decode w = .ok i → encode i = w

/-- R155: the rows are disjoint, a word decodes exactly when a row accepts it, and to that row's operation. -/
def Obligations.DecodeAgreesWithOpcodeTable : Prop :=
  (∀ w : Word, (∃ i, decode w = .ok i) ↔ ∃ r ∈ opcodeTable, r.accepts w = true) ∧
  (∀ (w : Word) (i : Instr) (r : OpRow), decode w = .ok i → r ∈ opcodeTable → r.accepts w = true →
    r.mnemonic = i.mnemonic) ∧
  (∀ (w : Word) (r r' : OpRow), r ∈ opcodeTable → r' ∈ opcodeTable → r.accepts w = true → r'.accepts w = true → r = r')

/-- R160: the encoding examples of the spec, and its five illegal words. -/
def Obligations.EncodingExamplesDecode : Prop :=
  decode 0x01010000 = .ok (.edge .ch1) ∧ decode 0x03000000 = .ok (.bticke .ch0) ∧
  decode 0x04009600 = .ok (.adcdone 0x9600) ∧ decode 0x07010000 = .ok (.oilin true) ∧
  decode 0x10000000 = .ok (.rd 0x00) ∧ decode 0x10040000 = .ok (.rd 0x04) ∧
  decode 0x11080012 = .ok (.wr 0x08 18) ∧ decode 0x110B0100 = .ok (.wr 0x0B 0x0100) ∧
  decode 0x200005DC = .ok (.actRpm 1500) ∧ decode 0x20020043 = .ok (.actTmp 67) ∧
  decode 0x20030032 = .ok (.actFuel 50) ∧ decode 0x21000000 = .ok .gate ∧ decode 0x30000000 = .ok .reset ∧
  (∀ w ∈ [0x00000000#32, 0x01020000#32, 0x20040000#32, 0x20020100#32, 0x02000001#32], ∀ i, decode w ≠ .ok i)

/-- R158: the word of every line of the assembly syntax with operands in range, register names included; a line with an
operand out of range is refused, never truncated. -/
def Obligations.AssemblerWords : Prop :=
  (∀ (cfg : Cfg) (c l d v b a : Nat), c ≤ 1 → l ≤ 1 → d < 2 ^ 16 → v < 2 ^ 16 → b < 256 → a < 256 →
    assemble cfg (.edge c) = .ok [BitVec.ofNat 32 (0x01000000 + c * 65536)] ∧
    assemble cfg .btick = .ok [0x02000000] ∧
    assemble cfg (.bticke c) = .ok [BitVec.ofNat 32 (0x03000000 + c * 65536)] ∧
    assemble cfg (.adcdone d) = .ok [BitVec.ofNat 32 (0x04000000 + d)] ∧
    assemble cfg .wtick = .ok [0x05000000] ∧ assemble cfg .ptick = .ok [0x06000000] ∧
    assemble cfg (.oilin l) = .ok [BitVec.ofNat 32 (0x07000000 + l * 65536)] ∧
    assemble cfg (.rd (.number a)) = .ok [BitVec.ofNat 32 (0x10000000 + a * 65536)] ∧
    assemble cfg (.wr (.number a) v) = .ok [BitVec.ofNat 32 (0x11000000 + a * 65536 + v)] ∧
    assemble cfg (.actRpm v) = .ok [BitVec.ofNat 32 (0x20000000 + v)] ∧
    assemble cfg (.actSpd b) = .ok [BitVec.ofNat 32 (0x20010000 + b)] ∧
    assemble cfg (.actTmp b) = .ok [BitVec.ofNat 32 (0x20020000 + b)] ∧
    assemble cfg (.actFuel b) = .ok [BitVec.ofNat 32 (0x20030000 + b)] ∧
    assemble cfg .gate = .ok [0x21000000] ∧ assemble cfg .reset = .ok [0x30000000] ∧
    (∀ r n, (r, n) ∈ registerNames →
      assemble cfg (.rd (.name r)) = .ok [BitVec.ofNat 32 (0x10000000 + n * 65536)] ∧
      assemble cfg (.wr (.name r) v) = .ok [BitVec.ofNat 32 (0x11000000 + n * 65536 + v)])) ∧
  (∀ (cfg : Cfg) (n v : Nat) (r : RegOperand),
    (1 < n → assemble cfg (.edge n) = .error .channel ∧ assemble cfg (.bticke n) = .error .channel ∧
      assemble cfg (.oilin n) = .error .level) ∧
    (255 < n → assemble cfg (.rd (.number n)) = .error .register ∧
      assemble cfg (.wr (.number n) v) = .error .register ∧ assemble cfg (.actSpd n) = .error .value8 ∧
      assemble cfg (.actTmp n) = .error .value8 ∧ assemble cfg (.actFuel n) = .error .value8) ∧
    (2 ^ 16 ≤ n → assemble cfg (.adcdone n) = .error .value16 ∧ assemble cfg (.actRpm n) = .error .value16 ∧
      (r.inRange = true → assemble cfg (.wr r n) = .error .value16)))

/-- R159: the pseudo-operations and their expansions, on every configuration whose HP_DISABLED has the value 0xFFFF that
00_scope.md R9 gives it. What DISABLE writes under a corrected value is `SentinelsFollowTheConfiguration`. -/
def Obligations.PseudoOperationsExpand : Prop :=
  ∀ (cfg : Cfg) (b c n : Nat), b < 256 → c ≤ 1 →
    assemble cfg (.sample b) = assemble cfg (.adcdone (b * 256)) ∧
    assemble cfg (.edges c n) = .ok (List.replicate n (BitVec.ofNat 32 (0x01000000 + c * 65536))) ∧
    assemble cfg (.bticks n) = .ok (List.replicate n 0x02000000) ∧
    assemble cfg (.wticks n) = .ok (List.replicate n 0x05000000) ∧
    assemble cfg (.pticks n) = .ok (List.replicate n 0x06000000) ∧
    assemble cfg .window = .ok (List.replicate cfg.windowTicks 0x02000000) ∧
    (cfg.hpDisabled = 0xFFFF → assemble cfg (.disable c) = assemble cfg (.wr (.number (8 + c)) 0xFFFF))

/-- R10, R554: with the source's values a board is built of a configuration exactly when it meets the rules (c1) to (c10),
and a refusal names a check that fails. The checks under corrected sentinels are `SentinelsFollowTheConfiguration`. -/
def Obligations.IllFormedConfigurationRefused : Prop :=
  ∀ c : Cfg,
    (c.sourceFixed = true → ((∃ b, Board.build c = .ok b ∧ b.cfg = c) ↔ ConfigurationRules 255 0xFFFF c)) ∧
    (∀ k, Board.build c = .error k → c.passes k = false)

/-! ## The whole machine -/

/-- R115, R150: a step performs the oldest word presented: exec of the operation it decodes to, on the state with the
word gone and no response yet. With nothing presented the state is held (the model's choice, log 2). -/
def Obligations.StepRunsDecodedWord : Prop :=
  ∀ s : State,
    (∀ w rest i, s.pending = w :: rest → decode w = .ok i →
      step s = exec i { s with pending := rest, response := none }) ∧
    (s.pending = [] → step s = .next s) ∧
    (∀ i, step (s.withFetchWord 32 (encode i).toNat) = exec i { s with response := none })

/-- R156: a word that matches no row records ILLEGAL with the word and changes nothing else. -/
def Obligations.IllegalWordRecorded : Prop :=
  ∀ (s : State) (w : Word) (rest : List Word), s.pending = w :: rest →
    (∀ r ∈ opcodeTable, w &&& r.maskBits ≠ r.matchBits) →
    step s = .next (faulted ⟨.illegal w, w⟩ { s with pending := rest })

/-- R508: every step of every state answers a next state: nothing makes the block stuck, no operation is refused. -/
def Obligations.EveryStepAnswersNext : Prop :=
  ∀ s : State, ∃ t, step s = .next t

/-- R552: a step appends at most one fault record, the record holds the word performed, and a step that appends one
changes nothing else and returns no value. -/
def Obligations.FaultsArePrecise : Prop :=
  ∀ s t : State, step s = .next t → t.faults = s.faults ∨
    ∃ r, s.pending = r.word :: t.pending ∧
      t = { s with faults := s.faults ++ [r], pending := t.pending, response := none }

/-- R551: only RD and WR can record a fault once decoded, an RD only BUS_UNMAPPED, a WR that one, BUS_READONLY or
BAD_VALUE. -/
def Obligations.OnlyHostAccessesFault : Prop :=
  ∀ (i : Instr) (s t : State), exec i s = .next t → t.faults ≠ s.faults →
    (∃ a, i = .rd a ∧ t.faults = s.faults ++ [⟨.busUnmapped a, encode i⟩]) ∨
    (∃ a v, i = .wr a v ∧
      (t.faults = s.faults ++ [⟨.busUnmapped a, encode i⟩] ∨ t.faults = s.faults ++ [⟨.busReadonly a, encode i⟩] ∨
        t.faults = s.faults ++ [⟨.badValue a v, encode i⟩]))

/-- The writers of every field (10_state.md section 3): whatever operation changes a field is one the table lists; the
configuration is never written (00_scope.md R9). -/
def Obligations.FieldsHaveOnlyTheirWriters : Prop :=
  ∀ (i : Instr) (s t : State), exec i s = .next t → i ≠ .reset →
    t.board = s.board ∧ t.pending = s.pending ∧
    (∀ c, t.acc.get c ≠ s.acc.get c → i = .edge c ∨ i = .btick ∨ ∃ d, i = .bticke d) ∧
    (t.rpm ≠ s.rpm ∨ t.speed ≠ s.speed ∨ t.wph ≠ s.wph → i = .btick ∨ ∃ d, i = .bticke d) ∧
    (t.temp ≠ s.temp ∨ t.fuel ≠ s.fuel ∨ t.adcSel ≠ s.adcSel → ∃ d, i = .adcdone d) ∧
    (t.hp.ch0 ≠ s.hp.ch0 → (∃ v, i = .wr 0x08 v) ∨ ∃ v, i = .actRpm v) ∧
    (t.hp.ch1 ≠ s.hp.ch1 → (∃ v, i = .wr 0x09 v) ∨ ∃ v, i = .actSpd v) ∧
    (t.cmp.ch0 ≠ s.cmp.ch0 → (∃ v, i = .wr 0x0A v) ∨ ∃ v, i = .actTmp v) ∧
    (t.cmp.ch1 ≠ s.cmp.ch1 → (∃ v, i = .wr 0x0B v) ∨ ∃ v, i = .actFuel v) ∧
    (t.cmpAct ≠ s.cmpAct → i = .ptick ∨
      s.board.cfg.pwmUpdate = .immediate ∧ ((∃ a v, i = .wr a v) ∨ (∃ v, i = .actTmp v) ∨ ∃ v, i = .actFuel v)) ∧
    (t.wcnt ≠ s.wcnt ∨ t.fout ≠ s.fout → i = .wtick) ∧
    (t.pcnt ≠ s.pcnt → i = .ptick) ∧
    (t.oilPin ≠ s.oilPin → ∃ l, i = .oilin l) ∧
    (t.lamp ≠ s.lamp ∨ t.armed ≠ s.armed → i = .gate)

/-- R120: the measurements are written only by event operations (and RESET), the setpoints only by host operations. -/
def Obligations.MeasurementsByEventsSetpointsByHost : Prop :=
  ∀ (i : Instr) (s t : State), exec i s = .next t → i ≠ .reset →
    (hostOperation i = true → t.rpm = s.rpm ∧ t.speed = s.speed ∧ t.temp = s.temp ∧ t.fuel = s.fuel) ∧
    (hostOperation i = false → t.hp = s.hp ∧ t.cmp = s.cmp)

/-- R73: the invariants of 10_state.md hold at power-on of every board, so right after reset. -/
def Obligations.InvariantHoldsAtReset : Prop :=
  (∀ (b : Board) (l : Bool), (State.powerOn b l).Inv) ∧ State.reset.Inv

/-- R73: every step keeps the invariants of 10_state.md, from every state that meets them and on every configuration. -/
def Obligations.StepKeepsInvariant : Prop :=
  ∀ s t : State, s.Inv → step s = .next t → t.Inv

/-! ## The model's choice on corrected sentinels -/

/-- The model's choice (log 9, DEDUCED from R5 and R10), no rule of the spec: for any sentinels a configuration may give,
a board is built exactly when the configuration meets the rules (c1) to (c10) with (c2) and (c4) below those sentinels,
and DISABLE writes the configuration's HP_DISABLED. -/
def Obligations.SentinelsFollowTheConfiguration : Prop :=
  (∀ c : Cfg, (∃ b, Board.build c = .ok b ∧ b.cfg = c) ↔ ConfigurationRules c.tempHot.toNat c.hpDisabled.toNat c) ∧
  (∀ (cfg : Cfg) (c : Nat), c ≤ 1 →
    assemble cfg (.disable c) = assemble cfg (.wr (.number (8 + c)) cfg.hpDisabled.toNat))
end

