-- ==== Sys2Proof/Laws/Encoding.lean ====
section
/-! SUPPORT. The fields of a packed word, and packing the fields of a word. -/

namespace Sys2Proof

/-- Bit i of a packed word lies in DATA, ARG or OP (30_encoding.md R150). -/
theorem getLsbD_packWord (o a : Byte) (d : Half) (i : Nat) : (packWord o a d).getLsbD i =
    if i < 16 then d.getLsbD i else if i < 24 then a.getLsbD (i - 16) else o.getLsbD (i - 24) := by
  unfold packWord
  simp only [BitVec.getLsbD_append]
  have h : i - 16 < 8 ↔ i < 24 ∨ i < 16 := by omega
  have h2 : i - 16 - 8 = i - 24 := by omega
  split_ifs <;> simp_all

@[simp] theorem opOf_packWord (o a : Byte) (d : Half) : opOf (packWord o a d) = o := by
  refine BitVec.eq_of_getLsbD_eq fun i hi => ?_
  have h : ¬ 24 + i < 16 := by omega
  have h' : ¬ 24 + i < 24 := by omega
  simp [opOf, getLsbD_packWord, hi, h, h']

@[simp] theorem argOf_packWord (o a : Byte) (d : Half) : argOf (packWord o a d) = a := by
  refine BitVec.eq_of_getLsbD_eq fun i hi => ?_
  have h : 16 + i < 24 := by omega
  simp [argOf, getLsbD_packWord, hi, h]

@[simp] theorem dataOf_packWord (o a : Byte) (d : Half) : dataOf (packWord o a d) = d := by
  refine BitVec.eq_of_getLsbD_eq fun i hi => ?_
  simp [dataOf, getLsbD_packWord, hi]

/-- A word is the packing of its three fields. -/
@[simp] theorem packWord_fields (w : Word) : packWord (opOf w) (argOf w) (dataOf w) = w := by
  refine BitVec.eq_of_getLsbD_eq fun i hi => ?_
  rw [getLsbD_packWord]
  by_cases h0 : i < 16
  · simp [dataOf, h0]
  · by_cases h1 : i < 24
    · have h8 : i - 16 < 8 := by omega
      have hi' : 16 + (i - 16) = i := by omega
      simp [argOf, h0, h1, h8, hi']
    · have h8 : i - 24 < 8 := by omega
      have hi' : 24 + (i - 24) = i := by omega
      simp [opOf, h0, h1, h8, hi']

/-- The packed word as a number (30_encoding.md R150). -/
theorem packWord_eq_ofNat (o a : Byte) (d : Half) :
    packWord o a d = BitVec.ofNat 32 (o.toNat * 16777216 + a.toNat * 65536 + d.toNat) := by
  apply BitVec.eq_of_toNat_eq
  unfold packWord
  have ho := o.isLt
  have ha := a.isLt
  have hd := d.isLt
  simp only [BitVec.toNat_append, BitVec.toNat_ofNat]
  rw [← Nat.shiftLeft_add_eq_or_of_lt ha, ← Nat.shiftLeft_add_eq_or_of_lt hd]
  simp only [Nat.shiftLeft_eq]
  omega

/-- Packed words are equal exactly when their fields are. -/
theorem packWord_inj {o a o' a' : Byte} {d d' : Half} :
    packWord o a d = packWord o' a' d' ↔ o = o' ∧ a = a' ∧ d = d' := by
  constructor
  · intro h
    have ho := congrArg opOf h
    have ha := congrArg argOf h
    have hd := congrArg dataOf h
    simp only [opOf_packWord, argOf_packWord, dataOf_packWord] at ho ha hd
    exact ⟨ho, ha, hd⟩
  · rintro ⟨rfl, rfl, rfl⟩
    rfl

/-- An 8-bit operand in DATA has DATA[15:8] zero. -/
@[simp] theorem setWidth_high (v : Byte) : BitVec.extractLsb' 8 8 (v.setWidth 16) = 0#8 := by
  refine BitVec.eq_of_getLsbD_eq fun i hi => ?_
  simp

/-- An 8-bit operand in DATA is DATA[7:0]. -/
@[simp] theorem setWidth_low (v : Byte) : BitVec.extractLsb' 0 8 (v.setWidth 16) = v := by
  refine BitVec.eq_of_getLsbD_eq fun i hi => ?_
  simp [hi]
  omega

end Sys2Proof
end

