-- ==== Sys2Proof/Laws/State.lean ====
section
/-! SUPPORT. One lemma per field per update: what each shared operation leaves unchanged, and the value of the fields it
writes, so that no later proof unfolds a record update. -/

namespace Sys2Proof.Machine

/-! ## Per-channel fields -/

@[simp] theorem Pair.get_ch0 {α : Type} (p : Pair α) : p.get .ch0 = p.ch0 := rfl
@[simp] theorem Pair.get_ch1 {α : Type} (p : Pair α) : p.get .ch1 = p.ch1 := rfl
@[simp] theorem Pair.set_ch0 {α : Type} (p : Pair α) (x : α) : p.set .ch0 x = ⟨x, p.ch1⟩ := rfl
@[simp] theorem Pair.set_ch1 {α : Type} (p : Pair α) (x : α) : p.set .ch1 x = ⟨p.ch0, x⟩ := rfl

theorem Pair.get_set_same {α : Type} (p : Pair α) (c : Chan) (x : α) : (p.set c x).get c = x := by cases c <;> rfl

theorem Pair.get_set_other {α : Type} (p : Pair α) (c : Chan) (x : α) :
    (p.set c x).get (otherChan c) = p.get (otherChan c) := by cases c <;> rfl

theorem Pair.get_set {α : Type} (p : Pair α) (c d : Chan) (x : α) :
    (p.set c x).get d = if d = c then x else p.get d := by cases c <;> cases d <;> rfl

/-- Two per-channel fields with equal copies are equal. -/
theorem Pair.ext_get {α : Type} {p q : Pair α} (h : ∀ c, p.get c = q.get c) : p = q := by
  have h0 : p.ch0 = q.ch0 := h .ch0
  have h1 : p.ch1 = q.ch1 := h .ch1
  cases p
  cases q
  simp_all

@[simp] theorem otherChan_otherChan (c : Chan) : otherChan (otherChan c) = c := by cases c <;> rfl
theorem otherChan_ne (c : Chan) : otherChan c ≠ c := by cases c <;> decide

/-! ## presentWord -/

@[simp] theorem presentWord_board (w : Word) (s : State) : (presentWord w s).board = s.board := rfl
@[simp] theorem presentWord_acc (w : Word) (s : State) : (presentWord w s).acc = s.acc := rfl
@[simp] theorem presentWord_rpm (w : Word) (s : State) : (presentWord w s).rpm = s.rpm := rfl
@[simp] theorem presentWord_wph (w : Word) (s : State) : (presentWord w s).wph = s.wph := rfl
@[simp] theorem presentWord_speed (w : Word) (s : State) : (presentWord w s).speed = s.speed := rfl
@[simp] theorem presentWord_temp (w : Word) (s : State) : (presentWord w s).temp = s.temp := rfl
@[simp] theorem presentWord_adcSel (w : Word) (s : State) : (presentWord w s).adcSel = s.adcSel := rfl
@[simp] theorem presentWord_fuel (w : Word) (s : State) : (presentWord w s).fuel = s.fuel := rfl
@[simp] theorem presentWord_hp (w : Word) (s : State) : (presentWord w s).hp = s.hp := rfl
@[simp] theorem presentWord_wcnt (w : Word) (s : State) : (presentWord w s).wcnt = s.wcnt := rfl
@[simp] theorem presentWord_fout (w : Word) (s : State) : (presentWord w s).fout = s.fout := rfl
@[simp] theorem presentWord_cmp (w : Word) (s : State) : (presentWord w s).cmp = s.cmp := rfl
@[simp] theorem presentWord_cmpAct (w : Word) (s : State) : (presentWord w s).cmpAct = s.cmpAct := rfl
@[simp] theorem presentWord_pcnt (w : Word) (s : State) : (presentWord w s).pcnt = s.pcnt := rfl
@[simp] theorem presentWord_oilPin (w : Word) (s : State) : (presentWord w s).oilPin = s.oilPin := rfl
@[simp] theorem presentWord_lamp (w : Word) (s : State) : (presentWord w s).lamp = s.lamp := rfl
@[simp] theorem presentWord_armed (w : Word) (s : State) : (presentWord w s).armed = s.armed := rfl
@[simp] theorem presentWord_faults (w : Word) (s : State) : (presentWord w s).faults = s.faults := rfl
@[simp] theorem presentWord_response (w : Word) (s : State) : (presentWord w s).response = s.response := rfl
@[simp] theorem presentWord_draws (w : Word) (s : State) : (presentWord w s).draws = s.draws := rfl

@[simp] theorem presentWord_pending (w : Word) (s : State) : (presentWord w s).pending = w :: s.pending := rfl

/-! ## recordFault -/

@[simp] theorem recordFault_board (k : FaultKind) (w : Word) (s : State) : (recordFault k w s).board = s.board := rfl
@[simp] theorem recordFault_acc (k : FaultKind) (w : Word) (s : State) : (recordFault k w s).acc = s.acc := rfl
@[simp] theorem recordFault_rpm (k : FaultKind) (w : Word) (s : State) : (recordFault k w s).rpm = s.rpm := rfl
@[simp] theorem recordFault_wph (k : FaultKind) (w : Word) (s : State) : (recordFault k w s).wph = s.wph := rfl
@[simp] theorem recordFault_speed (k : FaultKind) (w : Word) (s : State) : (recordFault k w s).speed = s.speed := rfl
@[simp] theorem recordFault_temp (k : FaultKind) (w : Word) (s : State) : (recordFault k w s).temp = s.temp := rfl
@[simp] theorem recordFault_adcSel (k : FaultKind) (w : Word) (s : State) : (recordFault k w s).adcSel = s.adcSel := rfl
@[simp] theorem recordFault_fuel (k : FaultKind) (w : Word) (s : State) : (recordFault k w s).fuel = s.fuel := rfl
@[simp] theorem recordFault_hp (k : FaultKind) (w : Word) (s : State) : (recordFault k w s).hp = s.hp := rfl
@[simp] theorem recordFault_wcnt (k : FaultKind) (w : Word) (s : State) : (recordFault k w s).wcnt = s.wcnt := rfl
@[simp] theorem recordFault_fout (k : FaultKind) (w : Word) (s : State) : (recordFault k w s).fout = s.fout := rfl
@[simp] theorem recordFault_cmp (k : FaultKind) (w : Word) (s : State) : (recordFault k w s).cmp = s.cmp := rfl
@[simp] theorem recordFault_cmpAct (k : FaultKind) (w : Word) (s : State) : (recordFault k w s).cmpAct = s.cmpAct := rfl
@[simp] theorem recordFault_pcnt (k : FaultKind) (w : Word) (s : State) : (recordFault k w s).pcnt = s.pcnt := rfl
@[simp] theorem recordFault_oilPin (k : FaultKind) (w : Word) (s : State) : (recordFault k w s).oilPin = s.oilPin := rfl
@[simp] theorem recordFault_lamp (k : FaultKind) (w : Word) (s : State) : (recordFault k w s).lamp = s.lamp := rfl
@[simp] theorem recordFault_armed (k : FaultKind) (w : Word) (s : State) : (recordFault k w s).armed = s.armed := rfl
@[simp] theorem recordFault_pending (k : FaultKind) (w : Word) (s : State) : (recordFault k w s).pending = s.pending := rfl
@[simp] theorem recordFault_draws (k : FaultKind) (w : Word) (s : State) : (recordFault k w s).draws = s.draws := rfl

@[simp] theorem recordFault_faults (k : FaultKind) (w : Word) (s : State) :
    (recordFault k w s).faults = s.faults ++ [{ kind := k, word := w }] := rfl
@[simp] theorem recordFault_response (k : FaultKind) (w : Word) (s : State) :
    (recordFault k w s).response = none := rfl

/-! ## publish -/

@[simp] theorem publish_board (c : Chan) (n : Nat) (s : State) : (publish c n s).board = s.board := by cases c <;> rfl
@[simp] theorem publish_acc (c : Chan) (n : Nat) (s : State) : (publish c n s).acc = s.acc := by cases c <;> rfl
@[simp] theorem publish_wph (c : Chan) (n : Nat) (s : State) : (publish c n s).wph = s.wph := by cases c <;> rfl
@[simp] theorem publish_temp (c : Chan) (n : Nat) (s : State) : (publish c n s).temp = s.temp := by cases c <;> rfl
@[simp] theorem publish_adcSel (c : Chan) (n : Nat) (s : State) : (publish c n s).adcSel = s.adcSel := by cases c <;> rfl
@[simp] theorem publish_fuel (c : Chan) (n : Nat) (s : State) : (publish c n s).fuel = s.fuel := by cases c <;> rfl
@[simp] theorem publish_hp (c : Chan) (n : Nat) (s : State) : (publish c n s).hp = s.hp := by cases c <;> rfl
@[simp] theorem publish_wcnt (c : Chan) (n : Nat) (s : State) : (publish c n s).wcnt = s.wcnt := by cases c <;> rfl
@[simp] theorem publish_fout (c : Chan) (n : Nat) (s : State) : (publish c n s).fout = s.fout := by cases c <;> rfl
@[simp] theorem publish_cmp (c : Chan) (n : Nat) (s : State) : (publish c n s).cmp = s.cmp := by cases c <;> rfl
@[simp] theorem publish_cmpAct (c : Chan) (n : Nat) (s : State) : (publish c n s).cmpAct = s.cmpAct := by cases c <;> rfl
@[simp] theorem publish_pcnt (c : Chan) (n : Nat) (s : State) : (publish c n s).pcnt = s.pcnt := by cases c <;> rfl
@[simp] theorem publish_oilPin (c : Chan) (n : Nat) (s : State) : (publish c n s).oilPin = s.oilPin := by cases c <;> rfl
@[simp] theorem publish_lamp (c : Chan) (n : Nat) (s : State) : (publish c n s).lamp = s.lamp := by cases c <;> rfl
@[simp] theorem publish_armed (c : Chan) (n : Nat) (s : State) : (publish c n s).armed = s.armed := by cases c <;> rfl
@[simp] theorem publish_faults (c : Chan) (n : Nat) (s : State) : (publish c n s).faults = s.faults := by cases c <;> rfl
@[simp] theorem publish_pending (c : Chan) (n : Nat) (s : State) : (publish c n s).pending = s.pending := by cases c <;> rfl
@[simp] theorem publish_response (c : Chan) (n : Nat) (s : State) : (publish c n s).response = s.response := by cases c <;> rfl
@[simp] theorem publish_draws (c : Chan) (n : Nat) (s : State) : (publish c n s).draws = s.draws := by cases c <;> rfl

@[simp] theorem publish_rpm (c : Chan) (n : Nat) (s : State) :
    (publish c n s).rpm = if c = .ch0 then fitRpm (rate0 s.board.cfg n) s.draws else s.rpm := by cases c <;> rfl
@[simp] theorem publish_speed (c : Chan) (n : Nat) (s : State) :
    (publish c n s).speed = if c = .ch1 then fitSpeed (rate1 s.board.cfg n) s.draws else s.speed := by cases c <;> rfl

/-! ## drain -/

@[simp] theorem drain_board (c : Chan) (s : State) : (drain c s).board = s.board := by cases c <;> rfl
@[simp] theorem drain_wph (c : Chan) (s : State) : (drain c s).wph = s.wph := by cases c <;> rfl
@[simp] theorem drain_temp (c : Chan) (s : State) : (drain c s).temp = s.temp := by cases c <;> rfl
@[simp] theorem drain_adcSel (c : Chan) (s : State) : (drain c s).adcSel = s.adcSel := by cases c <;> rfl
@[simp] theorem drain_fuel (c : Chan) (s : State) : (drain c s).fuel = s.fuel := by cases c <;> rfl
@[simp] theorem drain_hp (c : Chan) (s : State) : (drain c s).hp = s.hp := by cases c <;> rfl
@[simp] theorem drain_wcnt (c : Chan) (s : State) : (drain c s).wcnt = s.wcnt := by cases c <;> rfl
@[simp] theorem drain_fout (c : Chan) (s : State) : (drain c s).fout = s.fout := by cases c <;> rfl
@[simp] theorem drain_cmp (c : Chan) (s : State) : (drain c s).cmp = s.cmp := by cases c <;> rfl
@[simp] theorem drain_cmpAct (c : Chan) (s : State) : (drain c s).cmpAct = s.cmpAct := by cases c <;> rfl
@[simp] theorem drain_pcnt (c : Chan) (s : State) : (drain c s).pcnt = s.pcnt := by cases c <;> rfl
@[simp] theorem drain_oilPin (c : Chan) (s : State) : (drain c s).oilPin = s.oilPin := by cases c <;> rfl
@[simp] theorem drain_lamp (c : Chan) (s : State) : (drain c s).lamp = s.lamp := by cases c <;> rfl
@[simp] theorem drain_armed (c : Chan) (s : State) : (drain c s).armed = s.armed := by cases c <;> rfl
@[simp] theorem drain_faults (c : Chan) (s : State) : (drain c s).faults = s.faults := by cases c <;> rfl
@[simp] theorem drain_pending (c : Chan) (s : State) : (drain c s).pending = s.pending := by cases c <;> rfl
@[simp] theorem drain_response (c : Chan) (s : State) : (drain c s).response = s.response := by cases c <;> rfl
@[simp] theorem drain_draws (c : Chan) (s : State) : (drain c s).draws = s.draws := by cases c <;> rfl

@[simp] theorem drain_acc (c : Chan) (s : State) : (drain c s).acc = s.acc.set c 0 := by cases c <;> rfl
@[simp] theorem drain_rpm (c : Chan) (s : State) : (drain c s).rpm =
    if c = .ch0 then fitRpm (rate0 s.board.cfg (s.acc.get c).toNat) s.draws else s.rpm := by cases c <;> rfl
@[simp] theorem drain_speed (c : Chan) (s : State) : (drain c s).speed =
    if c = .ch1 then fitSpeed (rate1 s.board.cfg (s.acc.get c).toNat) s.draws else s.speed := by cases c <;> rfl

/-! ## drainIf -/

@[simp] theorem drainIf_board (p : Nat) (c : Chan) (s : State) : (drainIf p c s).board = s.board := by unfold drainIf; split <;> simp
@[simp] theorem drainIf_wph (p : Nat) (c : Chan) (s : State) : (drainIf p c s).wph = s.wph := by unfold drainIf; split <;> simp
@[simp] theorem drainIf_temp (p : Nat) (c : Chan) (s : State) : (drainIf p c s).temp = s.temp := by unfold drainIf; split <;> simp
@[simp] theorem drainIf_adcSel (p : Nat) (c : Chan) (s : State) : (drainIf p c s).adcSel = s.adcSel := by unfold drainIf; split <;> simp
@[simp] theorem drainIf_fuel (p : Nat) (c : Chan) (s : State) : (drainIf p c s).fuel = s.fuel := by unfold drainIf; split <;> simp
@[simp] theorem drainIf_hp (p : Nat) (c : Chan) (s : State) : (drainIf p c s).hp = s.hp := by unfold drainIf; split <;> simp
@[simp] theorem drainIf_wcnt (p : Nat) (c : Chan) (s : State) : (drainIf p c s).wcnt = s.wcnt := by unfold drainIf; split <;> simp
@[simp] theorem drainIf_fout (p : Nat) (c : Chan) (s : State) : (drainIf p c s).fout = s.fout := by unfold drainIf; split <;> simp
@[simp] theorem drainIf_cmp (p : Nat) (c : Chan) (s : State) : (drainIf p c s).cmp = s.cmp := by unfold drainIf; split <;> simp
@[simp] theorem drainIf_cmpAct (p : Nat) (c : Chan) (s : State) : (drainIf p c s).cmpAct = s.cmpAct := by unfold drainIf; split <;> simp
@[simp] theorem drainIf_pcnt (p : Nat) (c : Chan) (s : State) : (drainIf p c s).pcnt = s.pcnt := by unfold drainIf; split <;> simp
@[simp] theorem drainIf_oilPin (p : Nat) (c : Chan) (s : State) : (drainIf p c s).oilPin = s.oilPin := by unfold drainIf; split <;> simp
@[simp] theorem drainIf_lamp (p : Nat) (c : Chan) (s : State) : (drainIf p c s).lamp = s.lamp := by unfold drainIf; split <;> simp
@[simp] theorem drainIf_armed (p : Nat) (c : Chan) (s : State) : (drainIf p c s).armed = s.armed := by unfold drainIf; split <;> simp
@[simp] theorem drainIf_faults (p : Nat) (c : Chan) (s : State) : (drainIf p c s).faults = s.faults := by unfold drainIf; split <;> simp
@[simp] theorem drainIf_pending (p : Nat) (c : Chan) (s : State) : (drainIf p c s).pending = s.pending := by unfold drainIf; split <;> simp
@[simp] theorem drainIf_response (p : Nat) (c : Chan) (s : State) : (drainIf p c s).response = s.response := by unfold drainIf; split <;> simp
@[simp] theorem drainIf_draws (p : Nat) (c : Chan) (s : State) : (drainIf p c s).draws = s.draws := by unfold drainIf; split <;> simp

@[simp] theorem drainIf_acc (p : Nat) (c : Chan) (s : State) : (drainIf p c s).acc =
    if p = drainPhase s.board.cfg c then s.acc.set c 0 else s.acc := by unfold drainIf; split <;> simp
@[simp] theorem drainIf_rpm (p : Nat) (c : Chan) (s : State) : (drainIf p c s).rpm =
    if p = drainPhase s.board.cfg c ∧ c = .ch0 then fitRpm (rate0 s.board.cfg (s.acc.get c).toNat) s.draws
    else s.rpm := by unfold drainIf; split <;> simp_all
@[simp] theorem drainIf_speed (p : Nat) (c : Chan) (s : State) : (drainIf p c s).speed =
    if p = drainPhase s.board.cfg c ∧ c = .ch1 then fitSpeed (rate1 s.board.cfg (s.acc.get c).toNat) s.draws
    else s.speed := by unfold drainIf; split <;> simp_all

/-! ## countEdge -/

@[simp] theorem countEdge_board (c : Chan) (s : State) : (countEdge c s).board = s.board := rfl
@[simp] theorem countEdge_rpm (c : Chan) (s : State) : (countEdge c s).rpm = s.rpm := rfl
@[simp] theorem countEdge_wph (c : Chan) (s : State) : (countEdge c s).wph = s.wph := rfl
@[simp] theorem countEdge_speed (c : Chan) (s : State) : (countEdge c s).speed = s.speed := rfl
@[simp] theorem countEdge_temp (c : Chan) (s : State) : (countEdge c s).temp = s.temp := rfl
@[simp] theorem countEdge_adcSel (c : Chan) (s : State) : (countEdge c s).adcSel = s.adcSel := rfl
@[simp] theorem countEdge_fuel (c : Chan) (s : State) : (countEdge c s).fuel = s.fuel := rfl
@[simp] theorem countEdge_hp (c : Chan) (s : State) : (countEdge c s).hp = s.hp := rfl
@[simp] theorem countEdge_wcnt (c : Chan) (s : State) : (countEdge c s).wcnt = s.wcnt := rfl
@[simp] theorem countEdge_fout (c : Chan) (s : State) : (countEdge c s).fout = s.fout := rfl
@[simp] theorem countEdge_cmp (c : Chan) (s : State) : (countEdge c s).cmp = s.cmp := rfl
@[simp] theorem countEdge_cmpAct (c : Chan) (s : State) : (countEdge c s).cmpAct = s.cmpAct := rfl
@[simp] theorem countEdge_pcnt (c : Chan) (s : State) : (countEdge c s).pcnt = s.pcnt := rfl
@[simp] theorem countEdge_oilPin (c : Chan) (s : State) : (countEdge c s).oilPin = s.oilPin := rfl
@[simp] theorem countEdge_lamp (c : Chan) (s : State) : (countEdge c s).lamp = s.lamp := rfl
@[simp] theorem countEdge_armed (c : Chan) (s : State) : (countEdge c s).armed = s.armed := rfl
@[simp] theorem countEdge_faults (c : Chan) (s : State) : (countEdge c s).faults = s.faults := rfl
@[simp] theorem countEdge_pending (c : Chan) (s : State) : (countEdge c s).pending = s.pending := rfl
@[simp] theorem countEdge_response (c : Chan) (s : State) : (countEdge c s).response = s.response := rfl
@[simp] theorem countEdge_draws (c : Chan) (s : State) : (countEdge c s).draws = s.draws := rfl

@[simp] theorem countEdge_acc (c : Chan) (s : State) : (countEdge c s).acc = s.acc.set c (s.acc.get c + 1) := rfl

/-! ## endTick -/

@[simp] theorem endTick_board (s : State) : (endTick s).board = s.board := rfl
@[simp] theorem endTick_acc (s : State) : (endTick s).acc = s.acc := rfl
@[simp] theorem endTick_rpm (s : State) : (endTick s).rpm = s.rpm := rfl
@[simp] theorem endTick_wph (s : State) : (endTick s).wph = s.wph := rfl
@[simp] theorem endTick_speed (s : State) : (endTick s).speed = s.speed := rfl
@[simp] theorem endTick_temp (s : State) : (endTick s).temp = s.temp := rfl
@[simp] theorem endTick_adcSel (s : State) : (endTick s).adcSel = s.adcSel := rfl
@[simp] theorem endTick_fuel (s : State) : (endTick s).fuel = s.fuel := rfl
@[simp] theorem endTick_hp (s : State) : (endTick s).hp = s.hp := rfl
@[simp] theorem endTick_wcnt (s : State) : (endTick s).wcnt = s.wcnt := rfl
@[simp] theorem endTick_fout (s : State) : (endTick s).fout = s.fout := rfl
@[simp] theorem endTick_cmp (s : State) : (endTick s).cmp = s.cmp := rfl
@[simp] theorem endTick_cmpAct (s : State) : (endTick s).cmpAct = s.cmpAct := rfl
@[simp] theorem endTick_pcnt (s : State) : (endTick s).pcnt = s.pcnt := rfl
@[simp] theorem endTick_oilPin (s : State) : (endTick s).oilPin = s.oilPin := rfl
@[simp] theorem endTick_lamp (s : State) : (endTick s).lamp = s.lamp := rfl
@[simp] theorem endTick_armed (s : State) : (endTick s).armed = s.armed := rfl
@[simp] theorem endTick_faults (s : State) : (endTick s).faults = s.faults := rfl
@[simp] theorem endTick_pending (s : State) : (endTick s).pending = s.pending := rfl
@[simp] theorem endTick_response (s : State) : (endTick s).response = s.response := rfl

@[simp] theorem endTick_draws (s : State) : (endTick s).draws = s.draws + 1 := rfl

/-! ## baseTick -/

@[simp] theorem baseTick_board (s : State) : (baseTick s).board = s.board := by simp [baseTick]
@[simp] theorem baseTick_temp (s : State) : (baseTick s).temp = s.temp := by simp [baseTick]
@[simp] theorem baseTick_adcSel (s : State) : (baseTick s).adcSel = s.adcSel := by simp [baseTick]
@[simp] theorem baseTick_fuel (s : State) : (baseTick s).fuel = s.fuel := by simp [baseTick]
@[simp] theorem baseTick_hp (s : State) : (baseTick s).hp = s.hp := by simp [baseTick]
@[simp] theorem baseTick_wcnt (s : State) : (baseTick s).wcnt = s.wcnt := by simp [baseTick]
@[simp] theorem baseTick_fout (s : State) : (baseTick s).fout = s.fout := by simp [baseTick]
@[simp] theorem baseTick_cmp (s : State) : (baseTick s).cmp = s.cmp := by simp [baseTick]
@[simp] theorem baseTick_cmpAct (s : State) : (baseTick s).cmpAct = s.cmpAct := by simp [baseTick]
@[simp] theorem baseTick_pcnt (s : State) : (baseTick s).pcnt = s.pcnt := by simp [baseTick]
@[simp] theorem baseTick_oilPin (s : State) : (baseTick s).oilPin = s.oilPin := by simp [baseTick]
@[simp] theorem baseTick_lamp (s : State) : (baseTick s).lamp = s.lamp := by simp [baseTick]
@[simp] theorem baseTick_armed (s : State) : (baseTick s).armed = s.armed := by simp [baseTick]
@[simp] theorem baseTick_faults (s : State) : (baseTick s).faults = s.faults := by simp [baseTick]
@[simp] theorem baseTick_pending (s : State) : (baseTick s).pending = s.pending := by simp [baseTick]
@[simp] theorem baseTick_response (s : State) : (baseTick s).response = s.response := by simp [baseTick]

@[simp] theorem baseTick_wph (s : State) : (baseTick s).wph = BitVec.ofNat 8 (nextPhase s) := by simp [baseTick]
@[simp] theorem baseTick_draws (s : State) : (baseTick s).draws = s.draws + 1 := by simp [baseTick]

/-! ## baseTickEdge -/

@[simp] theorem baseTickEdge_board (o : Outcome) (c : Chan) (s : State) : (baseTickEdge o c s).board = s.board := by unfold baseTickEdge; dsimp only; split <;> simp
@[simp] theorem baseTickEdge_temp (o : Outcome) (c : Chan) (s : State) : (baseTickEdge o c s).temp = s.temp := by unfold baseTickEdge; dsimp only; split <;> simp
@[simp] theorem baseTickEdge_adcSel (o : Outcome) (c : Chan) (s : State) : (baseTickEdge o c s).adcSel = s.adcSel := by unfold baseTickEdge; dsimp only; split <;> simp
@[simp] theorem baseTickEdge_fuel (o : Outcome) (c : Chan) (s : State) : (baseTickEdge o c s).fuel = s.fuel := by unfold baseTickEdge; dsimp only; split <;> simp
@[simp] theorem baseTickEdge_hp (o : Outcome) (c : Chan) (s : State) : (baseTickEdge o c s).hp = s.hp := by unfold baseTickEdge; dsimp only; split <;> simp
@[simp] theorem baseTickEdge_wcnt (o : Outcome) (c : Chan) (s : State) : (baseTickEdge o c s).wcnt = s.wcnt := by unfold baseTickEdge; dsimp only; split <;> simp
@[simp] theorem baseTickEdge_fout (o : Outcome) (c : Chan) (s : State) : (baseTickEdge o c s).fout = s.fout := by unfold baseTickEdge; dsimp only; split <;> simp
@[simp] theorem baseTickEdge_cmp (o : Outcome) (c : Chan) (s : State) : (baseTickEdge o c s).cmp = s.cmp := by unfold baseTickEdge; dsimp only; split <;> simp
@[simp] theorem baseTickEdge_cmpAct (o : Outcome) (c : Chan) (s : State) : (baseTickEdge o c s).cmpAct = s.cmpAct := by unfold baseTickEdge; dsimp only; split <;> simp
@[simp] theorem baseTickEdge_pcnt (o : Outcome) (c : Chan) (s : State) : (baseTickEdge o c s).pcnt = s.pcnt := by unfold baseTickEdge; dsimp only; split <;> simp
@[simp] theorem baseTickEdge_oilPin (o : Outcome) (c : Chan) (s : State) : (baseTickEdge o c s).oilPin = s.oilPin := by unfold baseTickEdge; dsimp only; split <;> simp
@[simp] theorem baseTickEdge_lamp (o : Outcome) (c : Chan) (s : State) : (baseTickEdge o c s).lamp = s.lamp := by unfold baseTickEdge; dsimp only; split <;> simp
@[simp] theorem baseTickEdge_armed (o : Outcome) (c : Chan) (s : State) : (baseTickEdge o c s).armed = s.armed := by unfold baseTickEdge; dsimp only; split <;> simp
@[simp] theorem baseTickEdge_faults (o : Outcome) (c : Chan) (s : State) : (baseTickEdge o c s).faults = s.faults := by unfold baseTickEdge; dsimp only; split <;> simp
@[simp] theorem baseTickEdge_pending (o : Outcome) (c : Chan) (s : State) : (baseTickEdge o c s).pending = s.pending := by unfold baseTickEdge; dsimp only; split <;> simp
@[simp] theorem baseTickEdge_response (o : Outcome) (c : Chan) (s : State) : (baseTickEdge o c s).response = s.response := by unfold baseTickEdge; dsimp only; split <;> simp

@[simp] theorem baseTickEdge_wph (o : Outcome) (c : Chan) (s : State) :
    (baseTickEdge o c s).wph = BitVec.ofNat 8 (nextPhase s) := by
  unfold baseTickEdge; dsimp only; split <;> simp [nextPhase]
@[simp] theorem baseTickEdge_draws (o : Outcome) (c : Chan) (s : State) :
    (baseTickEdge o c s).draws = s.draws + 1 := by unfold baseTickEdge; dsimp only; split <;> simp

/-! ## swgStep -/

@[simp] theorem swgStep_board (c : Chan) (s : State) : (swgStep c s).board = s.board := rfl
@[simp] theorem swgStep_acc (c : Chan) (s : State) : (swgStep c s).acc = s.acc := rfl
@[simp] theorem swgStep_rpm (c : Chan) (s : State) : (swgStep c s).rpm = s.rpm := rfl
@[simp] theorem swgStep_wph (c : Chan) (s : State) : (swgStep c s).wph = s.wph := rfl
@[simp] theorem swgStep_speed (c : Chan) (s : State) : (swgStep c s).speed = s.speed := rfl
@[simp] theorem swgStep_temp (c : Chan) (s : State) : (swgStep c s).temp = s.temp := rfl
@[simp] theorem swgStep_adcSel (c : Chan) (s : State) : (swgStep c s).adcSel = s.adcSel := rfl
@[simp] theorem swgStep_fuel (c : Chan) (s : State) : (swgStep c s).fuel = s.fuel := rfl
@[simp] theorem swgStep_hp (c : Chan) (s : State) : (swgStep c s).hp = s.hp := rfl
@[simp] theorem swgStep_cmp (c : Chan) (s : State) : (swgStep c s).cmp = s.cmp := rfl
@[simp] theorem swgStep_cmpAct (c : Chan) (s : State) : (swgStep c s).cmpAct = s.cmpAct := rfl
@[simp] theorem swgStep_pcnt (c : Chan) (s : State) : (swgStep c s).pcnt = s.pcnt := rfl
@[simp] theorem swgStep_oilPin (c : Chan) (s : State) : (swgStep c s).oilPin = s.oilPin := rfl
@[simp] theorem swgStep_lamp (c : Chan) (s : State) : (swgStep c s).lamp = s.lamp := rfl
@[simp] theorem swgStep_armed (c : Chan) (s : State) : (swgStep c s).armed = s.armed := rfl
@[simp] theorem swgStep_faults (c : Chan) (s : State) : (swgStep c s).faults = s.faults := rfl
@[simp] theorem swgStep_pending (c : Chan) (s : State) : (swgStep c s).pending = s.pending := rfl
@[simp] theorem swgStep_response (c : Chan) (s : State) : (swgStep c s).response = s.response := rfl
@[simp] theorem swgStep_draws (c : Chan) (s : State) : (swgStep c s).draws = s.draws := rfl

@[simp] theorem swgStep_wcnt (c : Chan) (s : State) : (swgStep c s).wcnt =
    s.wcnt.set c (swgNext s.board.cfg.hpDisabled (s.hp.get c) (s.wcnt.get c) (s.fout.get c)).1 := rfl
@[simp] theorem swgStep_fout (c : Chan) (s : State) : (swgStep c s).fout =
    s.fout.set c (swgNext s.board.cfg.hpDisabled (s.hp.get c) (s.wcnt.get c) (s.fout.get c)).2 := rfl

/-! ## setCmp -/

@[simp] theorem setCmp_board (c : Chan) (v : Half) (s : State) : (setCmp c v s).board = s.board := rfl
@[simp] theorem setCmp_acc (c : Chan) (v : Half) (s : State) : (setCmp c v s).acc = s.acc := rfl
@[simp] theorem setCmp_rpm (c : Chan) (v : Half) (s : State) : (setCmp c v s).rpm = s.rpm := rfl
@[simp] theorem setCmp_wph (c : Chan) (v : Half) (s : State) : (setCmp c v s).wph = s.wph := rfl
@[simp] theorem setCmp_speed (c : Chan) (v : Half) (s : State) : (setCmp c v s).speed = s.speed := rfl
@[simp] theorem setCmp_temp (c : Chan) (v : Half) (s : State) : (setCmp c v s).temp = s.temp := rfl
@[simp] theorem setCmp_adcSel (c : Chan) (v : Half) (s : State) : (setCmp c v s).adcSel = s.adcSel := rfl
@[simp] theorem setCmp_fuel (c : Chan) (v : Half) (s : State) : (setCmp c v s).fuel = s.fuel := rfl
@[simp] theorem setCmp_hp (c : Chan) (v : Half) (s : State) : (setCmp c v s).hp = s.hp := rfl
@[simp] theorem setCmp_wcnt (c : Chan) (v : Half) (s : State) : (setCmp c v s).wcnt = s.wcnt := rfl
@[simp] theorem setCmp_fout (c : Chan) (v : Half) (s : State) : (setCmp c v s).fout = s.fout := rfl
@[simp] theorem setCmp_pcnt (c : Chan) (v : Half) (s : State) : (setCmp c v s).pcnt = s.pcnt := rfl
@[simp] theorem setCmp_oilPin (c : Chan) (v : Half) (s : State) : (setCmp c v s).oilPin = s.oilPin := rfl
@[simp] theorem setCmp_lamp (c : Chan) (v : Half) (s : State) : (setCmp c v s).lamp = s.lamp := rfl
@[simp] theorem setCmp_armed (c : Chan) (v : Half) (s : State) : (setCmp c v s).armed = s.armed := rfl
@[simp] theorem setCmp_faults (c : Chan) (v : Half) (s : State) : (setCmp c v s).faults = s.faults := rfl
@[simp] theorem setCmp_pending (c : Chan) (v : Half) (s : State) : (setCmp c v s).pending = s.pending := rfl
@[simp] theorem setCmp_response (c : Chan) (v : Half) (s : State) : (setCmp c v s).response = s.response := rfl
@[simp] theorem setCmp_draws (c : Chan) (v : Half) (s : State) : (setCmp c v s).draws = s.draws := rfl

@[simp] theorem setCmp_cmp (c : Chan) (v : Half) (s : State) : (setCmp c v s).cmp = s.cmp.set c v := rfl
@[simp] theorem setCmp_cmpAct (c : Chan) (v : Half) (s : State) : (setCmp c v s).cmpAct =
    if s.board.cfg.pwmUpdate = .immediate then s.cmpAct.set c v else s.cmpAct := rfl

/-! ## pwmTick -/

@[simp] theorem pwmTick_board (s : State) : (pwmTick s).board = s.board := by unfold pwmTick; split <;> rfl
@[simp] theorem pwmTick_acc (s : State) : (pwmTick s).acc = s.acc := by unfold pwmTick; split <;> rfl
@[simp] theorem pwmTick_rpm (s : State) : (pwmTick s).rpm = s.rpm := by unfold pwmTick; split <;> rfl
@[simp] theorem pwmTick_wph (s : State) : (pwmTick s).wph = s.wph := by unfold pwmTick; split <;> rfl
@[simp] theorem pwmTick_speed (s : State) : (pwmTick s).speed = s.speed := by unfold pwmTick; split <;> rfl
@[simp] theorem pwmTick_temp (s : State) : (pwmTick s).temp = s.temp := by unfold pwmTick; split <;> rfl
@[simp] theorem pwmTick_adcSel (s : State) : (pwmTick s).adcSel = s.adcSel := by unfold pwmTick; split <;> rfl
@[simp] theorem pwmTick_fuel (s : State) : (pwmTick s).fuel = s.fuel := by unfold pwmTick; split <;> rfl
@[simp] theorem pwmTick_hp (s : State) : (pwmTick s).hp = s.hp := by unfold pwmTick; split <;> rfl
@[simp] theorem pwmTick_wcnt (s : State) : (pwmTick s).wcnt = s.wcnt := by unfold pwmTick; split <;> rfl
@[simp] theorem pwmTick_fout (s : State) : (pwmTick s).fout = s.fout := by unfold pwmTick; split <;> rfl
@[simp] theorem pwmTick_cmp (s : State) : (pwmTick s).cmp = s.cmp := by unfold pwmTick; split <;> rfl
@[simp] theorem pwmTick_oilPin (s : State) : (pwmTick s).oilPin = s.oilPin := by unfold pwmTick; split <;> rfl
@[simp] theorem pwmTick_lamp (s : State) : (pwmTick s).lamp = s.lamp := by unfold pwmTick; split <;> rfl
@[simp] theorem pwmTick_armed (s : State) : (pwmTick s).armed = s.armed := by unfold pwmTick; split <;> rfl
@[simp] theorem pwmTick_faults (s : State) : (pwmTick s).faults = s.faults := by unfold pwmTick; split <;> rfl
@[simp] theorem pwmTick_pending (s : State) : (pwmTick s).pending = s.pending := by unfold pwmTick; split <;> rfl
@[simp] theorem pwmTick_response (s : State) : (pwmTick s).response = s.response := by unfold pwmTick; split <;> rfl
@[simp] theorem pwmTick_draws (s : State) : (pwmTick s).draws = s.draws := by unfold pwmTick; split <;> rfl

@[simp] theorem pwmTick_pcnt (s : State) : (pwmTick s).pcnt =
    if s.pcnt.toNat = s.board.cfg.pwmTop then 0 else s.pcnt + 1 := by unfold pwmTick; split <;> rfl
@[simp] theorem pwmTick_cmpAct (s : State) : (pwmTick s).cmpAct =
    if s.pcnt.toNat = s.board.cfg.pwmTop ∧ s.board.cfg.pwmUpdate = .atWrap then s.cmp else s.cmpAct := by
  unfold pwmTick; split <;> simp_all

/-! ## publishSample -/

@[simp] theorem publishSample_board (x : Byte) (s : State) : (publishSample x s).board = s.board := by unfold publishSample; split <;> rfl
@[simp] theorem publishSample_acc (x : Byte) (s : State) : (publishSample x s).acc = s.acc := by unfold publishSample; split <;> rfl
@[simp] theorem publishSample_rpm (x : Byte) (s : State) : (publishSample x s).rpm = s.rpm := by unfold publishSample; split <;> rfl
@[simp] theorem publishSample_wph (x : Byte) (s : State) : (publishSample x s).wph = s.wph := by unfold publishSample; split <;> rfl
@[simp] theorem publishSample_speed (x : Byte) (s : State) : (publishSample x s).speed = s.speed := by unfold publishSample; split <;> rfl
@[simp] theorem publishSample_hp (x : Byte) (s : State) : (publishSample x s).hp = s.hp := by unfold publishSample; split <;> rfl
@[simp] theorem publishSample_wcnt (x : Byte) (s : State) : (publishSample x s).wcnt = s.wcnt := by unfold publishSample; split <;> rfl
@[simp] theorem publishSample_fout (x : Byte) (s : State) : (publishSample x s).fout = s.fout := by unfold publishSample; split <;> rfl
@[simp] theorem publishSample_cmp (x : Byte) (s : State) : (publishSample x s).cmp = s.cmp := by unfold publishSample; split <;> rfl
@[simp] theorem publishSample_cmpAct (x : Byte) (s : State) : (publishSample x s).cmpAct = s.cmpAct := by unfold publishSample; split <;> rfl
@[simp] theorem publishSample_pcnt (x : Byte) (s : State) : (publishSample x s).pcnt = s.pcnt := by unfold publishSample; split <;> rfl
@[simp] theorem publishSample_oilPin (x : Byte) (s : State) : (publishSample x s).oilPin = s.oilPin := by unfold publishSample; split <;> rfl
@[simp] theorem publishSample_lamp (x : Byte) (s : State) : (publishSample x s).lamp = s.lamp := by unfold publishSample; split <;> rfl
@[simp] theorem publishSample_armed (x : Byte) (s : State) : (publishSample x s).armed = s.armed := by unfold publishSample; split <;> rfl
@[simp] theorem publishSample_faults (x : Byte) (s : State) : (publishSample x s).faults = s.faults := by unfold publishSample; split <;> rfl
@[simp] theorem publishSample_pending (x : Byte) (s : State) : (publishSample x s).pending = s.pending := by unfold publishSample; split <;> rfl
@[simp] theorem publishSample_response (x : Byte) (s : State) : (publishSample x s).response = s.response := by unfold publishSample; split <;> rfl
@[simp] theorem publishSample_draws (x : Byte) (s : State) : (publishSample x s).draws = s.draws := by unfold publishSample; split <;> rfl

/-! ## resetState -/

@[simp] theorem resetState_board (s : State) : (resetState s).board = s.board := rfl
@[simp] theorem resetState_oilPin (s : State) : (resetState s).oilPin = s.oilPin := rfl
@[simp] theorem resetState_faults (s : State) : (resetState s).faults = s.faults := rfl
@[simp] theorem resetState_pending (s : State) : (resetState s).pending = s.pending := rfl
@[simp] theorem resetState_response (s : State) : (resetState s).response = s.response := rfl
@[simp] theorem resetState_draws (s : State) : (resetState s).draws = s.draws := rfl

end Sys2Proof.Machine
end

