-- ==== Sys2Proof/Laws/Ops.lean ====
section
/-! SUPPORT. What each shared operation can do, said once: the meaning of every operation as one equation, the host
register accesses by address, the checks of a board, and the bounds of the lookups. -/

namespace Sys2Proof.Machine

/-! ## The checks of a board -/

/-- A board passes every check of 00_scope.md R10. -/
theorem board_passes (b : Board) (k : CfgCheck) : b.cfg.passes k = true := by
  have h := b.ok
  simp only [Cfg.wf, Cfg.failedCheck, Option.isNone_iff_eq_none, List.find?_eq_none] at h
  simpa using h k (by cases k <;> simp [CfgCheck.all])

/-- The window and the phases of a board (check c9). -/
theorem board_window (b : Board) : 1 ≤ b.cfg.windowTicks ∧ b.cfg.windowTicks ≤ 256 ∧
    b.cfg.phase0 < b.cfg.windowTicks ∧ b.cfg.phase1 < b.cfg.windowTicks := by
  have := board_passes b .c9
  simp [Cfg.passes] at this
  omega

/-- The disabled sentinel of a board is above every entry of the half-period tables, so at least 2 (checks c3, c4). -/
theorem board_hpDisabled (b : Board) : 2 ≤ b.cfg.hpDisabled.toNat ∧
    (∀ e ∈ b.cfg.tabRpm, 1 ≤ e ∧ e < b.cfg.hpDisabled.toNat) ∧ ∀ e ∈ b.cfg.tabSpd, 1 ≤ e ∧ e < b.cfg.hpDisabled.toNat := by
  have h3 := board_passes b .c3
  have h4 := board_passes b .c4
  simp only [Cfg.passes, tableShape, halfPeriods, Bool.and_eq_true, decide_eq_true_eq, List.all_eq_true] at h3 h4
  refine ⟨?_, h4.1, h4.2⟩
  have h0 := h4.1 _ (List.getElem_mem (l := b.cfg.tabRpm) (n := 0) (by omega))
  omega

/-- Neighbours of a list that is `adjacent` are related, by index. -/
theorem adjacent_getD {p : Nat → Nat → Bool} : ∀ {l : List Nat}, adjacent p l = true → ∀ i, i + 1 < l.length →
    p (l.getD i 0) (l.getD (i + 1) 0) = true
  | [], _, i, hi => by simp at hi
  | [_], _, i, hi => by simp at hi
  | a :: b :: rest, h, 0, _ => by
    simp only [adjacent, Bool.and_eq_true] at h
    simpa using h.1
  | a :: b :: rest, h, i + 1, hi => by
    simp only [adjacent, Bool.and_eq_true] at h
    simpa using adjacent_getD h.2 i (by simpa using hi)

/-- A list is `adjacent` exactly when all its neighbours are related. -/
theorem adjacent_iff (p : Nat → Nat → Bool) (l : List Nat) :
    adjacent p l = true ↔ ∀ i, i + 1 < l.length → p (l.getD i 0) (l.getD (i + 1) 0) = true := by
  refine ⟨adjacent_getD, fun h => ?_⟩
  match l with
  | [] => rfl
  | [_] => rfl
  | a :: b :: rest =>
    simp only [adjacent, Bool.and_eq_true]
    exact ⟨by simpa using h 0 (by simp),
      (adjacent_iff p (b :: rest)).2 fun i hi => by simpa using h (i + 1) (by simpa using hi)⟩

/-! ## The meaning of each operation -/

@[simp] theorem exec_edge (c : Chan) (s : State) : exec (.edge c) s = .next (countEdge c s) := rfl
@[simp] theorem exec_btick (s : State) : exec .btick s = .next (baseTick s) := rfl
@[simp] theorem exec_bticke (c : Chan) (s : State) : exec (.bticke c) s = .next (baseTickEdge (drawnOutcome s) c s) := rfl
@[simp] theorem exec_adcdone (d : Half) (s : State) : exec (.adcdone d) s = .next (publishSample (adcSample d) s) := rfl
@[simp] theorem exec_wtick (s : State) : exec .wtick s = .next (swgStep .ch1 (swgStep .ch0 s)) := rfl
@[simp] theorem exec_ptick (s : State) : exec .ptick s = .next (pwmTick s) := rfl
@[simp] theorem exec_oilin (l : Bool) (s : State) : exec (.oilin l) s = .next { s with oilPin := l } := rfl
@[simp] theorem exec_actRpm (v : Half) (s : State) :
    exec (.actRpm v) s = .next { s with hp := s.hp.set .ch0 (rpmSetpoint s.board.cfg v) } := rfl
@[simp] theorem exec_actSpd (v : Byte) (s : State) :
    exec (.actSpd v) s = .next { s with hp := s.hp.set .ch1 (spdSetpoint s.board.cfg v) } := rfl
@[simp] theorem exec_actTmp (v : Byte) (s : State) :
    exec (.actTmp v) s = .next (setCmp .ch0 (tmpSetpoint s.board.cfg v) s) := rfl
@[simp] theorem exec_actFuel (v : Byte) (s : State) :
    exec (.actFuel v) s = .next (setCmp .ch1 (fuelSetpoint s.board.cfg v) s) := rfl
@[simp] theorem exec_gate (s : State) :
    exec .gate s = .next { s with armed := engineRunning s, lamp := engineRunning s && s.oilPin } := rfl
@[simp] theorem exec_reset (s : State) : exec .reset s = .next (resetState s) := rfl

/-- RD: the response, or the recorded fault. -/
theorem exec_rd (a : Byte) (s : State) : exec (.rd a) s = .next (match busRead a s with
    | .ok x => { s with response := some x }
    | .error k => recordFault k (encode (.rd a)) s) := rfl

/-- WR: the written state, or the recorded fault. -/
theorem exec_wr (a : Byte) (v : Half) (s : State) : exec (.wr a v) s = .next (match busWrite a v s with
    | .ok t => t
    | .error k => recordFault k (encode (.wr a v)) s) := rfl

/-- Every operation answers a next state (60_exceptions.md R564). -/
theorem exec_next (i : Instr) (s : State) : ∃ t, exec i s = .next t := by cases i <;> exact ⟨_, rfl⟩

/-- Performing one operation and then the rest. -/
theorem perform_cons {i : Instr} {s t : State} (rest : List Instr) (h : exec i s = .next t) :
    perform (i :: rest) s = perform rest t := by simp [perform, h]

/-- A run starts with one operation. -/
theorem perform_step {i : Instr} {rest : List Instr} {s t : State} (h : perform (i :: rest) s = some t) :
    ∃ u, exec i s = .next u ∧ perform rest u = some t := by
  obtain ⟨u, hu⟩ := exec_next i s
  exact ⟨u, hu, by rwa [perform_cons rest hu] at h⟩

/-- A run is a run of its two parts. -/
theorem perform_append (l m : List Instr) (s : State) : perform (l ++ m) s = (perform l s).bind (perform m) := by
  induction l generalizing s with
  | nil => rfl
  | cons i l ih =>
    simp only [List.cons_append, perform]
    split <;> simp_all

/-! ## Phases and lookups -/

/-- The next phase is a phase. -/
theorem nextPhase_lt (s : State) : nextPhase s < s.board.cfg.windowTicks := Nat.mod_lt _ (board_window s.board).1

/-- The next phase fits its register. -/
theorem nextPhase_toNat (s : State) : (BitVec.ofNat 8 (nextPhase s)).toNat = nextPhase s := by
  have := nextPhase_lt s
  have := board_window s.board
  simp
  omega

/-- A sample is the high byte of the result. -/
theorem adcSample_toNat (d : Half) : (adcSample d).toNat = d.toNat / 256 := by
  simp [adcSample, Nat.shiftRight_eq_div_pow]
  omega

/-- The search finds the first breakpoint at or below the sample. -/
theorem breakpointIndex_eq (raw : Nat) : ∀ (l : List Nat) (i : Nat), i < l.length → l.getD i 0 ≤ raw →
    (∀ j < i, raw < l.getD j 0) → breakpointIndex raw l = i
  | [], i, hi, _, _ => by simp at hi
  | a :: l, 0, _, h, _ => by
    have h' : a ≤ raw := by simpa using h
    simp [breakpointIndex, h']
  | a :: l, i + 1, hi, h, hj => by
    have h0 : ¬ a ≤ raw := by simpa using hj 0 (by omega)
    have hr := breakpointIndex_eq raw l i (by simpa using hi) (by simpa using h)
      (fun j hh => by simpa using hj (j + 1) (by omega))
    simp [breakpointIndex, h0, hr]

/-- The search ends past the table when every breakpoint is above the sample. -/
theorem breakpointIndex_none (raw : Nat) : ∀ (l : List Nat), (∀ j < l.length, raw < l.getD j 0) →
    breakpointIndex raw l = l.length
  | [], _ => rfl
  | a :: l, h => by
    have h0 : ¬ a ≤ raw := by simpa using h 0 (by simp)
    have hr := breakpointIndex_none raw l (fun j hh => by simpa using h (j + 1) (by simpa using hh))
    simp [breakpointIndex, h0, hr]

/-! ## The square-wave step of one channel (42_waveform.md R301) -/

/-- At the sentinel the count takes the half-period. -/
@[simp] theorem swgNext_reload (d hp : Half) (f : Bool) : swgNext d hp d f = (hp, f) := by simp [swgNext]

/-- At the zero transition a disabled output stops. -/
theorem swgNext_stop {d : Half} (hd : 2 ≤ d.toNat) (f : Bool) : swgNext d d 1 f = (d, f) := by
  have : (1#16) ≠ d := by rintro rfl; simp at hd
  simp [swgNext, this]

/-- At the zero transition an enabled output toggles and takes its half-period. -/
theorem swgNext_toggle {d hp : Half} (hd : 2 ≤ d.toNat) (hh : hp ≠ d) (f : Bool) : swgNext d hp 1 f = (hp, !f) := by
  have : (1#16) ≠ d := by rintro rfl; simp at hd
  simp [swgNext, this, hh]

/-- Any other count goes down by one. -/
theorem swgNext_count {d hp w : Half} (hw : 2 ≤ w.toNat) (hd : w ≠ d) (f : Bool) :
    swgNext d hp w f = (w - 1, f) ∧ (w - 1).toNat = w.toNat - 1 := by
  have h0 : w - 1#16 ≠ 0#16 := by bv_omega
  exact ⟨by simp [swgNext, hd, h0], by bv_omega⟩

/-! ## The host register space -/

/-- A register is at its address. -/
@[simp] theorem HostReg.ofAddr_addr (r : HostReg) : HostReg.ofAddr r.addr = some r := by cases r <;> rfl

/-- Only its own address names a register. -/
theorem HostReg.addr_of_ofAddr {a : Byte} {r : HostReg} (h : HostReg.ofAddr a = some r) : a = r.addr := by
  unfold HostReg.ofAddr at h
  split at h <;> simp_all [HostReg.addr] <;> subst h <;> rfl

/-- The reserved addresses are 0x0E and above (20_memory.md R101). -/
theorem HostReg.ofAddr_none_iff (a : Byte) : HostReg.ofAddr a = none ↔ 0x0E ≤ a.toNat := by
  constructor
  · intro h
    by_contra hlt
    have hb : a.toNat < 14 := by omega
    have ha : a = BitVec.ofNat 8 a.toNat := by simp
    rw [ha] at h
    generalize a.toNat = n at h hb
    interval_cases n <;> simp [HostReg.ofAddr] at h
  · intro h
    cases hr : HostReg.ofAddr a with
    | none => rfl
    | some r =>
      have := HostReg.addr_of_ofAddr hr
      subst this
      cases r <;> simp [HostReg.addr] at h

/-- A write either writes one setpoint or names a fault (46_host_bus.md R502). -/
theorem busWrite_cases {a : Byte} {v : Half} {s t : State} (h : busWrite a v s = .ok t) :
    (∃ c, v ≠ 0 ∧ t = { s with hp := s.hp.set c v }) ∨ ∃ c, t = setCmp c v s := by
  unfold busWrite at h
  split at h
  · simp at h
  · rename_i r _
    cases r <;> simp only [regWrite, writeHp, reduceCtorEq, Except.ok.injEq] at h
    · split at h
      · simp at h
      · exact .inl ⟨.ch0, by assumption, by simpa using h.symm⟩
    · split at h
      · simp at h
      · exact .inl ⟨.ch1, by assumption, by simpa using h.symm⟩
    · exact .inr ⟨.ch0, h.symm⟩
    · exact .inr ⟨.ch1, h.symm⟩

end Sys2Proof.Machine
end

