-- ==== Sys2Proof/Laws/PerInstr.lean ====
section
/-! SUPPORT. Per-instruction family EncodedFields: the OP, ARG and DATA fields of an operation's word are the ones of
30_encoding.md R154. -/

namespace Sys2Proof.Laws.EncodedFields

/-- The three fields of the operation's word. -/
def Statement (i : Instr) : Prop :=
  opOf (encode i) = i.op ∧ argOf (encode i) = i.arg ∧ dataOf (encode i) = i.data

/-- Every word is packed from its operation's fields. -/
theorem of_encode (i : Instr) : Statement i :=
  ⟨opOf_packWord _ _ _, argOf_packWord _ _ _, dataOf_packWord _ _ _⟩

theorem edge (c : Chan) : Statement (.edge c) := of_encode _
theorem btick : Statement .btick := of_encode _
theorem bticke (c : Chan) : Statement (.bticke c) := of_encode _
theorem adcdone (d : Half) : Statement (.adcdone d) := of_encode _
theorem wtick : Statement .wtick := of_encode _
theorem ptick : Statement .ptick := of_encode _
theorem oilin (l : Bool) : Statement (.oilin l) := of_encode _
theorem rd (a : Byte) : Statement (.rd a) := of_encode _
theorem wr (a : Byte) (v : Half) : Statement (.wr a v) := of_encode _
theorem actRpm (v : Half) : Statement (.actRpm v) := of_encode _
theorem actSpd (v : Byte) : Statement (.actSpd v) := of_encode _
theorem actTmp (v : Byte) : Statement (.actTmp v) := of_encode _
theorem actFuel (v : Byte) : Statement (.actFuel v) := of_encode _
theorem gate : Statement .gate := of_encode _
theorem reset : Statement .reset := of_encode _

end Sys2Proof.Laws.EncodedFields
end

