-- ==== Sys2Proof/Tests/Slice0.lean ====
section
/-! SUPPORT. Tests of the model, with the values of spec/ (95_test_vectors.md, 30_encoding.md, 00_scope.md), and for every
statement with hypotheses a witness that meets them. -/

namespace Sys2Proof.Tests

open Sys2Proof Sys2Proof.Machine Sys2Proof.Slice0

/-! ## Well-formedness smoke: every check refuses a term of its own -/

/-- EX with the fields of a broken configuration is refused by the named check. -/
def refusedBy (c : Cfg) (k : CfgCheck) : Prop := c.failedCheck = some k ∧ Board.build c = .error k

theorem test_c1_refuses_ascending : refusedBy { Config.example with tempTable := [35, 47] } .c1 := by
  refine ⟨by decide, rfl⟩
theorem test_c1_refuses_one_entry : refusedBy { Config.example with tempTable := [35] } .c1 := by
  refine ⟨by decide, rfl⟩
theorem test_c1_refuses_wide_entry : refusedBy { Config.example with tempTable := [256, 35] } .c1 := by
  refine ⟨by decide, rfl⟩
theorem test_c2_refuses_255_degrees : refusedBy { Config.example with tempBase := 165 } .c2 := by
  refine ⟨by decide, rfl⟩
theorem test_c3_refuses_zero_width : refusedBy { Config.example with wRpm := 0 } .c3 := by
  refine ⟨by decide, rfl⟩
theorem test_c4_refuses_disabled_entry : refusedBy { Config.example with tabSpd := [0xFFFF, 5] } .c4 := by
  refine ⟨by decide, rfl⟩
theorem test_c5_refuses_increasing : refusedBy { Config.example with tabRpm := [5, 6] } .c5 := by
  refine ⟨by decide, rfl⟩
theorem test_c6_refuses_short_table : refusedBy { Config.example with wTmp := 9 } .c6 := by
  refine ⟨by decide, rfl⟩
theorem test_c7_refuses_short_table : refusedBy { Config.example with wFuel := 24 } .c7 := by
  refine ⟨by decide, rfl⟩
theorem test_c8_refuses_small_step : refusedBy { Config.example with tabFuel := [30, 54, 130, 190, 250] } .c8 := by
  refine ⟨by decide, rfl⟩
theorem test_c9_refuses_equal_phases : refusedBy { Config.example with phase1 := 0 } .c9 := by
  refine ⟨by decide, rfl⟩
theorem test_c9_refuses_wide_window : refusedBy { Config.example with windowTicks := 257 } .c9 := by
  refine ⟨by decide, rfl⟩
theorem test_c10_refuses_zero_top : refusedBy { Config.example with pwmTop := 0 } .c10 := by
  refine ⟨by decide, rfl⟩
theorem test_example_accepted : Config.example.wf = true ∧ Config.example.sourceFixed = true := by decide

theorem test_asm_refuses_channel : assemble Config.example (.edge 2) = .error .channel := rfl
theorem test_asm_refuses_level : assemble Config.example (.oilin 2) = .error .level := rfl
theorem test_asm_refuses_register : assemble Config.example (.rd (.number 256)) = .error .register := rfl
theorem test_asm_refuses_value16 : assemble Config.example (.wr (.name .hp0) 65536) = .error .value16 := rfl
theorem test_asm_refuses_value8 : assemble Config.example (.sample 256) = .error .value8 := rfl
theorem test_asm_disable : assemble Config.example (.disable 0) = .ok [0x1108FFFF] := rfl

/-! ## Decoding: words written out from R150, R152 and R154 (OP, ARG, DATA) -/

theorem test_decode_edge : decode (0b00000001#8 ++ 0b00000001#8 ++ 0x0000#16) = .ok (.edge .ch1) := rfl
theorem test_decode_btick : decode (0b00000010#8 ++ 0x00#8 ++ 0x0000#16) = .ok .btick := rfl
theorem test_decode_bticke : decode (0b00000011#8 ++ 0b00000001#8 ++ 0x0000#16) = .ok (.bticke .ch1) := rfl
theorem test_decode_adcdone : decode (0b00000100#8 ++ 0x00#8 ++ 0x96FF#16) = .ok (.adcdone 0x96FF) := rfl
theorem test_decode_wtick : decode (0b00000101#8 ++ 0x00#8 ++ 0x0000#16) = .ok .wtick := rfl
theorem test_decode_ptick : decode (0b00000110#8 ++ 0x00#8 ++ 0x0000#16) = .ok .ptick := rfl
theorem test_decode_oilin : decode (0b00000111#8 ++ 0b00000001#8 ++ 0x0000#16) = .ok (.oilin true) := rfl
theorem test_decode_rd : decode (0b00010000#8 ++ 0xFF#8 ++ 0x0000#16) = .ok (.rd 0xFF) := rfl
theorem test_decode_wr : decode (0b00010001#8 ++ 0x0B#8 ++ 0xFFFE#16) = .ok (.wr 0x0B 0xFFFE) := rfl
theorem test_decode_actRpm : decode (0b00100000#8 ++ 0x00#8 ++ 0x05DC#16) = .ok (.actRpm 1500) := rfl
theorem test_decode_actSpd : decode (0b00100000#8 ++ 0x01#8 ++ 0x001E#16) = .ok (.actSpd 30) := rfl
theorem test_decode_actTmp : decode (0b00100000#8 ++ 0x02#8 ++ 0x00FF#16) = .ok (.actTmp 255) := rfl
theorem test_decode_actFuel : decode (0b00100000#8 ++ 0x03#8 ++ 0x0032#16) = .ok (.actFuel 50) := rfl
theorem test_decode_gate : decode (0b00100001#8 ++ 0x00#8 ++ 0x0000#16) = .ok .gate := rfl
theorem test_decode_reset : decode (0b00110000#8 ++ 0x00#8 ++ 0x0000#16) = .ok .reset := rfl
theorem test_decode_zero_word : decode 0x00000000 = .error .unknownOp := rfl
theorem test_decode_act_channel_4 : decode 0x20040000 = .error .unknownActuator := rfl
theorem test_decode_nonzero_fields : decode 0x01020000 = .error .nonzeroField ∧ decode 0x20020100 = .error .nonzeroField ∧
    decode 0x02000001 = .error .nonzeroField ∧ decode 0x10000001 = .error .nonzeroField :=
  ⟨rfl, rfl, rfl, rfl⟩
theorem test_opcode_table_rows_disjoint :
    opcodeTable.Pairwise (fun r r' => (r.matchBits ^^^ r'.matchBits) &&& r.maskBits &&& r'.maskBits ≠ 0) := by decide

/-! ## Every row runs as the first operation after reset -/

/-- The word decodes to an operation of the table and the first step after reset answers a next state. -/
def runsAfterReset (w : Nat) : Bool :=
  (decodeTableWord 32 w).isSome &&
    match step (State.reset.withFetchWord 32 w) with
    | .next _ => true
    | .fault _ => false
    | .refused _ => false

theorem test_rows_run_after_reset :
    [0x01010000, 0x02000000, 0x03000000, 0x04009600, 0x05000000, 0x06000000, 0x07010000, 0x10040000, 0x11080012,
      0x200005DC, 0x2001001E, 0x20020043, 0x20030032, 0x21000000, 0x30000000].all runsAfterReset = true := by decide

/-- The block with the configuration EX right after power-on, the oil pin low (95_test_vectors.md). -/
def ex : State := State.powerOn Config.exampleBoard.board false

/-- One operation from a state. -/
def after (i : Instr) (s : State) : Option State := perform [i] s

/-- The board of EX with PWM_UPDATE = IMMEDIATE. -/
def immediateBoard : Board := { cfg := { Config.example with pwmUpdate := .immediate }, ok := by decide }

/-- The board of EX with BOUNDARY_SLOP = EXACT. -/
def exactBoard : Board := { cfg := { Config.example with boundarySlop := .exact }, ok := by decide }

/-- A board whose window is one tick, so that both channels drain at every tick (R202). -/
def oneTickBoard : Board := { cfg := { Config.example with windowTicks := 1, phase1 := 0 }, ok := by decide }

/-- The state just before the drain of channel 0 (95 section 2.2). -/
def beforeDrain0 : State := { ex with wph := 3, acc := ⟨26, 5⟩ }

/-- The state just before the drain of channel 1 (95 section 2.2). -/
def beforeDrain1 : State := { ex with wph := 1, acc := ⟨5, 9⟩ }

/-! ## One step of each operation: the vectors of 95_test_vectors.md section 2 -/

theorem test_edge_counts : (after (.edge .ch0) { ex with acc := ⟨17, 0⟩ }).map (·.acc) = some ⟨18, 0⟩ := by decide
theorem test_edge_wraps : (after (.edge .ch1) { ex with acc := ⟨3, 0xFFFF⟩ }).map (·.acc) = some ⟨3, 0⟩ := by decide
theorem test_btick_drains_ch0 : (after .btick { ex with wph := 3, acc := ⟨27, 5⟩ }).map
    (fun t => (t.wph, t.acc, t.rpm, t.speed)) = some (0, ⟨0, 5⟩, 1500, 0) := by decide
theorem test_btick_drains_ch1 : (after .btick beforeDrain1).map
    (fun t => (t.wph, t.acc, t.rpm, t.speed)) = some (2, ⟨5, 0⟩, 0, 9) := by decide
theorem test_bticke_outcomes :
    [Outcome.old, .new, .lost, .dup].map (fun o => (baseTickEdge o .ch0 beforeDrain0).rpm) =
      [1500, 1444, 1444, 1500] ∧
    [Outcome.old, .new, .lost, .dup].map (fun o => (baseTickEdge o .ch0 beforeDrain0).acc.ch0) = [0, 1, 0, 1] := by
  decide
theorem test_bticke_outside_drain : (after (.bticke .ch0) { ex with acc := ⟨26, 0⟩, rpm := 7 }).map
    (fun t => (t.acc, t.wph, t.rpm)) = some (⟨27, 0⟩, 1, 7) := by decide
theorem test_adcdone_publishes :
    (after (.adcdone 0x96FF) ex).map (fun t => (t.temp, t.fuel, t.adcSel)) = some (67, 0, .fuel) ∧
    (after (.adcdone 0xFF00) { ex with adcSel := .fuel, temp := 67 }).map (fun t => (t.temp, t.fuel, t.adcSel)) =
      some (67, 255, .temperature) := by decide
theorem test_tempLookup_vectors :
    [255, 211, 210, 209, 200, 190, 189, 168, 150, 145, 48, 47, 46, 36, 35, 34, 0].map (tempLookup Config.example) =
      [0, 0, 0, 40, 45, 50, 50, 60, 67, 70, 119, 120, 120, 129, 130, 255, 255] := by decide
theorem test_wtick_toggles_and_reloads : (after .wtick { ex with hp := ⟨3, 0xFFFF⟩, wcnt := ⟨1, 0xFFFF⟩ }).map
    (fun t => (t.fout, t.wcnt)) = some (⟨true, false⟩, ⟨3, 0xFFFF⟩) := by decide
theorem test_wtick_stops_high : (after .wtick { ex with wcnt := ⟨1, 5⟩, fout := ⟨true, true⟩ }).map
    (fun t => (t.fout, t.wcnt)) = some (⟨true, true⟩, ⟨0xFFFF, 4⟩) := by decide
theorem test_ptick_wraps_and_loads : (after .ptick { ex with pcnt := 255, cmp := ⟨56, 130⟩ }).map
    (fun t => (t.pcnt, t.cmpAct, t.pout .ch0)) = some (0, ⟨56, 130⟩, true) := by decide
theorem test_ptick_counts : (after .ptick { ex with pcnt := 55, cmp := ⟨1, 1⟩, cmpAct := ⟨56, 57⟩ }).map
    (fun t => (t.pcnt, t.pout .ch0, t.pout .ch1)) = some (56, false, true) := by decide
theorem test_oilin_latches : (after (.oilin true) ex).map (fun t => (t.oilPin, t.lamp)) = some (true, false) := by decide
theorem test_oilin_leaves_lamp : (after (.oilin false) { ex with oilPin := true, lamp := true, armed := true }).map
    (fun t => (t.oilPin, t.lamp)) = some (false, true) := by decide
theorem test_gate_at_threshold : (after .gate { ex with rpm := 1450, oilPin := true, lamp := true }).map
    (fun t => (t.armed, t.lamp)) = some (false, false) := by decide
theorem test_gate_above_threshold : (after .gate { ex with rpm := 1451, oilPin := true }).map
    (fun t => (t.armed, t.lamp)) = some (true, true) := by decide
theorem test_rd_status : (after (.rd 0x04) { ex with armed := true, lamp := true, oilPin := true }).bind (·.response) =
    some 0x0070 := by decide
theorem test_rd_unmapped : (after (.rd 0x20) ex).map (fun t => (t.response, t.faults)) =
    some (none, [⟨.busUnmapped 0x20, 0x10200000⟩]) := by decide
theorem test_wr_bad_value : (after (.wr 0x09 0) ex).map (fun t => (t.hp, t.faults)) =
    some (⟨0xFFFF, 0xFFFF⟩, [⟨.badValue 0x09 0, 0x11090000⟩]) := by decide
theorem test_wr_writes_setpoint :
    (after (.wr 0x08 18) ex).map (·.hp) = some ⟨18, 0xFFFF⟩ ∧
    (after (.wr 0x0B 0x0100) ex).map (fun t => (t.cmp.ch1, t.cmpAct.ch1)) = some (256, 0) ∧
    (after (.wr 0x0B 0x0100) { ex with board := immediateBoard }).map (fun t => (t.cmp.ch1, t.cmpAct.ch1)) =
      some (256, 256) := by decide
theorem test_actRpm_vectors : [0, 1, 500, 999, 1000, 1001, 1450, 1500, 7999, 8001, 65535].map
    (fun v => (rpmSetpoint Config.example (BitVec.ofNat 16 v)).toNat) =
      [65535, 1199, 900, 600, 600, 599, 465, 450, 75, 75, 75] := by decide
theorem test_actRpm_writes_ch0 : (after (.actRpm 1500) ex).map (·.hp) = some ⟨450, 0xFFFF⟩ := by decide
theorem test_actSpd_vectors : [0, 1, 10, 19, 20, 30, 100, 140, 141, 255].map
    (fun v => (spdSetpoint Config.example (BitVec.ofNat 8 v)).toNat) =
      [65535, 975, 750, 525, 500, 375, 100, 71, 71, 71] := by decide
theorem test_actSpd_writes_ch1 : (after (.actSpd 30) ex).map (·.hp) = some ⟨0xFFFF, 375⟩ := by decide
theorem test_actTmp_vectors : [0, 1, 49, 50, 55, 59, 60, 67, 125, 130, 131, 254, 255].map
    (fun v => (tmpSetpoint Config.example (BitVec.ofNat 8 v)).toNat) =
      [0, 16, 16, 16, 28, 37, 40, 56, 237, 250, 250, 250, 0] := by decide
theorem test_actTmp_writes_ch0 : (after (.actTmp 67) ex).map (fun t => (t.cmp, t.cmpAct)) = some (⟨56, 0⟩, ⟨0, 0⟩) := by
  decide
theorem test_actFuel_vectors : [0, 1, 12, 24, 25, 26, 50, 75, 99, 100, 101, 255].map
    (fun v => (fuelSetpoint Config.example (BitVec.ofNat 8 v)).toNat) =
      [30, 32, 54, 78, 80, 82, 130, 190, 247, 250, 250, 250] := by decide
theorem test_actFuel_writes_ch1 : (after (.actFuel 50) ex).map (·.cmp) = some ⟨0, 130⟩ := by decide
theorem test_reset_keeps_pin : (after .reset { ex with rpm := 1500, hp := ⟨450, 1⟩, fout := ⟨true, false⟩, oilPin := true }).map
    (fun t => (t.rpm, t.hp, t.fout, t.oilPin)) = some (0, ⟨0xFFFF, 0xFFFF⟩, ⟨false, false⟩, true) := by decide
theorem test_illegal_word_recorded : (match step (presentWord 0x01020000 ex) with
    | .next t => some (t.faults, t.acc)
    | .fault _ => none
    | .refused _ => none) = some ([⟨.illegal 0x01020000, 0x01020000⟩], ⟨0, 0⟩) := by decide

/-! ## Witnesses: for each statement with hypotheses, states and operands that meet them, each clause at its boundary -/

/-- ModelFieldsAtResetAndThroughOperations: no response, and an operation that is no RD. -/
theorem witness_ModelFieldsAtResetAndThroughOperations : ex.response = none ∧ ∀ a, Instr.gate ≠ .rd a :=
  ⟨rfl, fun _ h => nomatch h⟩

/-- A base tick that drains channel c. -/
def drains (c : Chan) (s : State) : Prop :=
  (s.wph.toNat + 1) % s.board.cfg.windowTicks = drainPhase s.board.cfg c

/-- BtickAdvancesPhaseAndDrains: a tick that drains each channel, one that drains none, one that drains both; counts
whose rates just fit and just do not (95 section 2.1). -/
theorem witness_BtickAdvancesPhaseAndDrains :
    (drains .ch0 beforeDrain0 ∧ ¬ drains .ch1 beforeDrain0) ∧ (drains .ch1 beforeDrain1 ∧ ¬ drains .ch0 beforeDrain1) ∧
    (¬ drains .ch0 ex ∧ ¬ drains .ch1 ex) ∧
    (drains .ch0 { ex with board := oneTickBoard } ∧ drains .ch1 { ex with board := oneTickBoard }) ∧
    1179 * 1000 / 18 < 2 ^ 16 ∧ 2 ^ 16 ≤ 1180 * 1000 / 18 ∧ 255 * 1 / 1 < 2 ^ 8 ∧ 2 ^ 8 ≤ 256 * 1 / 1 := by
  unfold drains; decide

/-- EmptyWindowPublishesZero: each channel drained empty by a plain tick, the other channel and the edge's own drained
empty by a tick with an edge; with NEW and LOST 0 is published, with OLD the edge is. -/
theorem witness_EmptyWindowPublishesZero :
    (drains .ch0 { ex with wph := 3 } ∧ ex.acc.get .ch0 = 0) ∧ (drains .ch1 { ex with wph := 1 } ∧ ex.acc.get .ch1 = 0) ∧
    (drains (otherChan .ch1) { ex with wph := 3 } ∧ ex.acc.get (otherChan .ch1) = 0) ∧
    [Outcome.new, .lost, .old].map (fun o => rateOf .ch0 (baseTickEdge o .ch0 { ex with wph := 3 })) = [0, 0, 55] := by
  unfold drains; decide

/-- SourceRateLaw: the greatest counts of either channel, and the counts 18 and 36. -/
theorem witness_SourceRateLaw : ex.board.cfg.sourceFixed = true ∧
    ((beforeDrain0.wph.toNat + 1) % 4 = beforeDrain0.board.cfg.phase0 ∧ (1179#16).toNat < 1180 ∧ (36#16).toNat < 1180 ∧
      (18#16).toNat < 1180) ∧
    ((beforeDrain1.wph.toNat + 1) % 4 = beforeDrain1.board.cfg.phase1 ∧ (255#16).toNat < 256) := by decide

/-- BtickeCountsEdgeByOutcome: either BOUNDARY_SLOP, at a drain of the channel and off it. -/
theorem witness_BtickeCountsEdgeByOutcome :
    exactBoard.cfg.boundarySlop = .exact ∧ ex.board.cfg.boundarySlop = .tolerant ∧
    (ex.wph.toNat + 1) % ex.board.cfg.windowTicks ≠ drainPhase ex.board.cfg .ch0 ∧
    (beforeDrain0.wph.toNat + 1) % beforeDrain0.board.cfg.windowTicks = drainPhase beforeDrain0.board.cfg .ch0 := by
  decide

/-- ExactBtickeIsOneOfTwoOrders. -/
theorem witness_ExactBtickeIsOneOfTwoOrders :
    ({ beforeDrain0 with board := exactBoard } : State).board.cfg.boundarySlop = .exact ∧
    (beforeDrain1.wph.toNat + 1) % beforeDrain1.board.cfg.windowTicks = drainPhase beforeDrain1.board.cfg .ch1 := by
  decide

/-- A run for the statements about sequences: an edge, a plain tick, a tick with an edge in the drain. -/
def boundaryRun : List Instr := [.edge .ch0, .btick, .btick, .btick, .bticke .ch0]

/-- A run in which no edge falls in a drain. -/
def plainRun : List Instr := [.edge .ch0, .btick, .adcdone 0x9600, .rd 0x00]

/-- A run with a tick that carries an edge of channel 0 at a drain of channel 1 only. -/
def edgeOffDrainRun : List Instr := [.btick, .bticke .ch0]

/-- DrainedCountsMatchEdgesWithinSlop: under EXACT with an edge in a drain, without one, with a BTICKE that drains the
other channel only; the accumulator just below its wrap. -/
theorem witness_DrainedCountsMatchEdgesWithinSlop :
    (∃ t, perform boundaryRun { ex with board := exactBoard } = some t) ∧ (∃ t, perform plainRun ex = some t) ∧
    (∃ t, perform edgeOffDrainRun ex = some t) ∧ Instr.reset ∉ boundaryRun ∧ Instr.reset ∉ plainRun ∧
    edgesInDrain .ch0 boundaryRun ex = 1 ∧ edgesInDrain .ch0 plainRun ex = 0 ∧ edgesInDrain .ch0 edgeOffDrainRun ex = 0 ∧
    exactBoard.cfg.boundarySlop = .exact ∧ (0xFFFD#16).toNat + edgesOf .ch0 boundaryRun < 2 ^ 16 ∧
    (0xFFFE#16).toNat + edgesOf .ch0 plainRun < 2 ^ 16 :=
  ⟨⟨_, rfl⟩, ⟨_, rfl⟩, ⟨_, rfl⟩, by decide, by decide, by decide, by decide, by decide, by decide, by decide, by decide⟩

/-- PhaseCountsBaseTicks and ConversionsAlternate: a run without RESET, from the last phase, with an odd and an even
number of conversions. -/
theorem witness_PhaseCountsBaseTicks_ConversionsAlternate :
    Instr.reset ∉ plainRun ∧ beforeDrain0.wph.toNat < beforeDrain0.board.cfg.windowTicks ∧
    (∃ t, perform plainRun beforeDrain0 = some t) ∧ (∃ t, perform boundaryRun ex = some t) ∧
    plainRun.countP isAdcdone % 2 = 1 ∧ boundaryRun.countP isAdcdone % 2 = 0 :=
  ⟨by decide, by decide, ⟨_, rfl⟩, ⟨_, rfl⟩, by decide, by decide⟩

/-- AdcdonePublishesSelectedChannel: either selection. -/
theorem witness_AdcdonePublishesSelectedChannel :
    ex.adcSel = .temperature ∧ ({ ex with adcSel := .fuel } : State).adcSel = .fuel := by decide

/-- The statements about the lookup: a sample on the first breakpoint, just below the last, and on both ends of the
first and the last bucket. -/
theorem witness_TempLookup :
    ex.board.cfg.tempTable.getD 0 0 ≤ 210 ∧ 34 < ex.board.cfg.tempTable.getD (ex.board.cfg.tempTable.length - 1) 0 ∧
    (∀ p ∈ [(1, 190), (1, 209), (9, 35), (9, 46)], 1 ≤ p.1 ∧ p.1 < ex.board.cfg.tempTable.length ∧
      ex.board.cfg.tempTable.getD p.1 0 ≤ p.2 ∧ p.2 < ex.board.cfg.tempTable.getD (p.1 - 1) 0) ∧
    (ex.board.cfg.tempTable.getD (ex.board.cfg.tempTable.length - 1) 0 ≤ 35 ∧ 35 ≤ 209 ∧
      209 < ex.board.cfg.tempTable.getD 0 0) ∧ ex.board.cfg.sourceFixed = true := by decide

/-- WtickStepsBothOutputs: each clause, counts 2 and 0xFFFE at the ends of the last one. -/
theorem witness_WtickStepsBothOutputs :
    ex.wcnt.get .ch0 = ex.board.cfg.hpDisabled ∧
    (({ ex with wcnt := ⟨1, 1⟩ } : State).wcnt.get .ch0 = 1 ∧
      ({ ex with wcnt := ⟨1, 1⟩ } : State).hp.get .ch0 = ex.board.cfg.hpDisabled) ∧
    (({ ex with wcnt := ⟨1, 1⟩, hp := ⟨3, 3⟩ } : State).wcnt.get .ch1 = 1 ∧
      ({ ex with wcnt := ⟨1, 1⟩, hp := ⟨3, 3⟩ } : State).hp.get .ch1 ≠ ex.board.cfg.hpDisabled) ∧
    (2 ≤ (2#16).toNat ∧ (2#16) ≠ ex.board.cfg.hpDisabled ∧ (0xFFFE#16) ≠ ex.board.cfg.hpDisabled) := by decide

/-- A running output: half-period 3, just reloaded. -/
def running : State := { ex with hp := ⟨3, 0xFFFF⟩, wcnt := ⟨3, 0xFFFF⟩ }

/-- SquareWaveFrequencyLaw, at half-periods 3, 1 and 0xFFFE. -/
theorem witness_SquareWaveFrequencyLaw :
    (1 ≤ (running.hp.get .ch0).toNat ∧ (running.hp.get .ch0).toNat < ex.board.cfg.hpDisabled.toNat ∧ running.wcnt.get .ch0 = running.hp.get .ch0) ∧
    1 ≤ (1#16).toNat ∧ (0xFFFE#16).toNat < ex.board.cfg.hpDisabled.toNat := by decide

/-- EnabledOutputTogglesAfterReload, at both ends of n. -/
theorem witness_EnabledOutputTogglesAfterReload :
    ∀ n ∈ [0, 3], 1 ≤ (({ ex with hp := ⟨3, 3⟩ } : State).hp.get .ch0).toNat ∧
      (({ ex with hp := ⟨3, 3⟩ } : State).hp.get .ch0).toNat < ex.board.cfg.hpDisabled.toNat ∧
      ({ ex with hp := ⟨3, 3⟩ } : State).wcnt.get .ch0 = ex.board.cfg.hpDisabled ∧
      n ≤ (({ ex with hp := ⟨3, 3⟩ } : State).hp.get .ch0).toNat := by decide

/-- DisabledOutputHoldsItsLevel, running out at the last tick and at rest. -/
theorem witness_DisabledOutputHoldsItsLevel :
    (ex.hp.get .ch0 = ex.board.cfg.hpDisabled ∧ 1 ≤ (ex.wcnt.get .ch0).toNat ∧ ex.wcnt.get .ch0 = ex.board.cfg.hpDisabled) ∧
    (({ ex with wcnt := ⟨2, 1⟩ } : State).hp.get .ch0 = ex.board.cfg.hpDisabled ∧ 1 ≤ (({ ex with wcnt := ⟨2, 1⟩ } : State).wcnt.get .ch0).toNat ∧
      (({ ex with wcnt := ⟨2, 1⟩ } : State).wcnt.get .ch0).toNat ≤ 2) := by decide

/-- SetpointTakesEffectAtReload, on both sides of the reload. -/
theorem witness_SetpointTakesEffectAtReload :
    (9#16) ≠ 0 ∧ (0xFFFF#16) ≠ 0 ∧ 1 ≤ (running.wcnt.get .ch0).toNat ∧ (running.wcnt.get .ch0).toNat < ex.board.cfg.hpDisabled.toNat ∧
    2 < (running.wcnt.get .ch0).toNat ∧ 3 = (running.wcnt.get .ch0).toNat := by decide

/-- OutputsNeverInterfere: two states that differ in output 1 and agree on output 0, and a run that touches both. -/
theorem witness_OutputsNeverInterfere :
    ∃ s s' t t' : State, s.board = s'.board ∧ s.hp.get .ch0 = s'.hp.get .ch0 ∧ s.wcnt.get .ch0 = s'.wcnt.get .ch0 ∧
      s.fout.get .ch0 = s'.fout.get .ch0 ∧ s.hp.get .ch1 ≠ s'.hp.get .ch1 ∧
      perform [.wr 0x08 5, .wtick] s = some t ∧ perform [.wr 0x08 5, .wtick] s' = some t' :=
  ⟨running, { running with hp := ⟨3, 7⟩ }, _, _, rfl, rfl, rfl, rfl, by decide, rfl, rfl⟩

/-- PtickCountsAndLoadsAtWrap: the wrap under either PWM_UPDATE, and the count just below it. -/
theorem witness_PtickCountsAndLoadsAtWrap :
    (({ ex with pcnt := 255 } : State).pcnt.toNat = ex.board.cfg.pwmTop ∧ ex.board.cfg.pwmUpdate = .atWrap) ∧
    ((255#16).toNat = immediateBoard.cfg.pwmTop ∧ immediateBoard.cfg.pwmUpdate = .immediate) ∧
    ({ ex with pcnt := 254 } : State).pcnt.toNat < ex.board.cfg.pwmTop := by decide

/-- PwmDutyLaw and CompareValueWaitsForWrap: from count 0 and from the last count, the last tick before the wrap and
the wrap. -/
theorem witness_PwmDutyLaw_CompareValueWaitsForWrap :
    ex.pcnt = 0 ∧ ex.board.cfg.pwmUpdate = .atWrap ∧
    (ex.pcnt.toNat ≤ ex.board.cfg.pwmTop ∧ ex.pcnt.toNat + 255 ≤ ex.board.cfg.pwmTop ∧
      ex.pcnt.toNat + 256 = ex.board.cfg.pwmTop + 1) ∧
    (({ ex with pcnt := 255 } : State).pcnt.toNat ≤ ex.board.cfg.pwmTop ∧
      ({ ex with pcnt := 255 } : State).pcnt.toNat + 1 = ex.board.cfg.pwmTop + 1) := by decide

/-- GateMirrorsOnlyAboveThreshold and LampFollowsSwitchAbove1450: the threshold and the speed above it. -/
theorem witness_Gate :
    ({ ex with rpm := 1451 } : State).rpm.toNat > ex.board.cfg.gateThreshold ∧
    ({ ex with rpm := 1450 } : State).rpm.toNat ≤ ex.board.cfg.gateThreshold ∧ ex.board.cfg.sourceFixed = true := by decide

/-- RdReturnsRegister: the first and the last address of the map. -/
theorem witness_RdReturnsRegister : (0x00, ex.rpm) ∈ registerFile ex ∧ (0x0D, ex.wcnt.ch1) ∈ registerFile ex := by decide

/-- WrWritesSetpoint and WriteThenReadReturnsValue: a half-period of 1 and either PWM_UPDATE; the first and the last
setpoint, a compare value of 0. -/
theorem witness_Wr :
    (1#16) ≠ 0 ∧ ex.board.cfg.pwmUpdate = .atWrap ∧ immediateBoard.cfg.pwmUpdate = .immediate ∧
    (0x08 ≤ (0x08#8).toNat ∧ (0x08#8).toNat ≤ 0x0B ∧ ((0x08#8).toNat ≤ 0x09 → (1#16) ≠ 0)) ∧
    (0x08 ≤ (0x0B#8).toNat ∧ (0x0B#8).toNat ≤ 0x0B ∧ ((0x0B#8).toNat ≤ 0x09 → (0#16) ≠ 0)) := by decide

/-- BadAccessRecordsFault: the ends of every range. -/
theorem witness_BadAccessRecordsFault :
    (∀ a ∈ [0x0E#8, 0xFF#8], 0x0E ≤ a.toNat) ∧
    (∀ a ∈ [0x00#8, 0x07#8, 0x0C#8, 0x0D#8], a.toNat ≤ 0x07 ∨ a.toNat = 0x0C ∨ a.toNat = 0x0D) ∧
    (∀ a ∈ [0x08#8, 0x09#8], a.toNat = 0x08 ∨ a.toNat = 0x09) := by decide

/-- The four ACT statements: the sentinels, the values beside them, either PWM_UPDATE, and a value on and off a
breakpoint. -/
theorem witness_Act :
    ((0#16) = 0 ∧ (1#16) ≠ 0) ∧ ((0#8) = 0 ∧ (1#8) ≠ 0) ∧
    ((0#8) = ex.board.cfg.tempCold ∧ (255#8) = ex.board.cfg.tempHot) ∧
    (∀ v ∈ [1#8, 254#8], v ≠ ex.board.cfg.tempCold ∧ v ≠ ex.board.cfg.tempHot) ∧
    ex.board.cfg.pwmUpdate = .atWrap ∧ immediateBoard.cfg.pwmUpdate = .immediate ∧
    (min (max 1500 0) 8000 - 0 = 1000 * 1 + 500 ∧ 500 < 1000) ∧ (min (max 8001 0) 8000 - 0 = 1000 * 8 + 0 ∧ 0 < 1000) := by
  decide

/-- FuelLevelIsEntryOrSample, and the scaling of the two ACT.FUEL statements: the identity, the last entry of a list, the
first sample past its end. -/
theorem witness_FuelScaling :
    ex.board.cfg.fuelToPct = [] ∧ ({ Config.example with fuelToPct := [5, 7] } : Cfg).fuelToPct[1]? = some 7 ∧
    1 < ({ Config.example with fuelToPct := [5, 7] } : Cfg).fuelToPct.length ∧
    ({ Config.example with fuelToPct := [5, 7] } : Cfg).fuelToPct.length ≤ 2 := by decide

/-- InterpolationStaysBetweenEntries, BreakpointsReproduceExactly: the temperature table off a breakpoint, on it, and at
both ends of its domain. -/
theorem witness_Interpolation :
    (1 ≤ 10 ∧ (clamp 67 50 130 - 50) % 10 ≠ 0) ∧ (clamp 60 50 130 - 50) % 10 = 0 ∧
    (1 ≤ 10 ∧ 50 ≤ 50 + 10 * 0 ∧ 50 + 10 * 8 ≤ 130) := by decide

/-- RpmHalfPeriodNonIncreasing and ActWritesDependOnOperandOnly. -/
theorem witness_RpmHalfPeriod_ActWrites :
    (0#16).toNat ≤ (0xFFFF#16).toNat ∧ ex.board = { ex with cmp := ⟨9, 9⟩, rpm := 7 }.board ∧
    (∃ t, exec (.actRpm 1500) ex = .next t) ∧ (∃ t, exec (.actSpd 30) ex = .next t) ∧
    (∃ t, exec (.actTmp 67) ex = .next t) ∧ (∃ t, exec (.actFuel 50) ex = .next t) :=
  ⟨by decide, rfl, ⟨_, rfl⟩, ⟨_, rfl⟩, ⟨_, rfl⟩, ⟨_, rfl⟩⟩

/-- FuelEndsAndInteriors: both ends, beyond the high end, the first and the last level strictly inside a bucket. -/
theorem witness_FuelEndsAndInteriors :
    fuelPct ex.board.cfg (0#8).toNat ≤ ex.board.cfg.fuelLo ∧ ex.board.cfg.fuelHi ≤ fuelPct ex.board.cfg (100#8).toNat ∧
    ex.board.cfg.fuelHi ≤ fuelPct ex.board.cfg (255#8).toNat ∧
    (∀ p ∈ [(1#8, 0, 1), (99#8, 3, 24)], fuelPct ex.board.cfg p.1.toNat =
      ex.board.cfg.fuelLo + ex.board.cfg.wFuel * p.2.1 + p.2.2 ∧ 1 ≤ p.2.2 ∧ p.2.2 < ex.board.cfg.wFuel ∧
      fuelPct ex.board.cfg p.1.toNat ≤ ex.board.cfg.fuelHi) := by decide

/-- EncodeInvertsDecode and DecodeAgreesWithOpcodeTable: a word that decodes, and its row. -/
theorem witness_Decode : decode 0x01010000 = .ok (.edge .ch1) ∧ decode 0x1100FFFF = .ok (.wr 0 0xFFFF) ∧
    (∃ r ∈ opcodeTable, r.accepts 0x01010000 = true) :=
  ⟨rfl, rfl, ⟨⟨"EDGE", 0x01000000, 0xFFFEFFFF⟩, by decide, by decide⟩⟩

/-- A board with corrected sentinels (00_scope.md R5), all three other than the source's. -/
def correctedBoard : Board :=
  { cfg := { Config.example with hpDisabled := 0x7FFF, tempCold := 1, tempHot := 254 }, ok := by decide }

theorem test_corrected_sentinels :
    (State.powerOn correctedBoard false).hp.ch0 = 0x7FFF ∧ (State.powerOn correctedBoard false).temp = 1 ∧
    (after (.actRpm 0) { ex with board := correctedBoard }).map (·.hp.ch0) = some 0x7FFF ∧
    (after (.actTmp 254) { ex with board := correctedBoard, cmp := ⟨9, 9⟩ }).map (·.cmp.ch0) = some 0 ∧
    (after (.adcdone 0x0000) { ex with board := correctedBoard }).map (·.temp) = some 254 ∧
    (after .wtick { ex with board := correctedBoard, hp := ⟨3, 3⟩, wcnt := ⟨0x7FFF, 1⟩ }).map (fun t => (t.wcnt, t.fout)) =
      some (⟨3, 3⟩, ⟨false, true⟩) := by decide

/-- AssemblerWords and PseudoOperationsExpand: the ends of every operand range, inside and outside. -/
theorem witness_Assembler : (1 ≤ 1 ∧ 65535 < 2 ^ 16 ∧ 255 < 256) ∧ (HostReg.wcnt1, 0x0D) ∈ registerNames ∧
    (1 < 2 ∧ 255 < 256 ∧ 2 ^ 16 ≤ 65536) ∧ (RegOperand.name .hp0).inRange = true ∧
    Config.example.hpDisabled = 0xFFFF := by decide

/-- IllFormedConfigurationRefused: a configuration that passes and one that is refused by name. -/
theorem witness_IllFormedConfigurationRefused :
    Config.example.sourceFixed = true ∧ (∃ b, Board.build Config.example = .ok b ∧ b.cfg = Config.example) ∧
    Board.build { Config.example with pwmTop := 0x10000 } = .error .c10 := ⟨by decide, ⟨_, rfl, rfl⟩, rfl⟩

/-- SentinelsFollowTheConfiguration: corrected sentinels that pass the checks, an entry at the corrected sentinel that does
not, and DISABLE on either channel. -/
theorem witness_SentinelsFollowTheConfiguration :
    correctedBoard.cfg.sourceFixed = false ∧ Board.build correctedBoard.cfg = .ok correctedBoard ∧
    Board.build { correctedBoard.cfg with tabRpm := [0x7FFF, 1] } = .error .c4 ∧ (0 ≤ 1 ∧ 1 ≤ 1) ∧
    assemble correctedBoard.cfg (.disable 0) = .ok [0x11087FFF] ∧
    assemble correctedBoard.cfg (.disable 1) = .ok [0x11097FFF] := ⟨rfl, rfl, rfl, by decide, rfl, rfl⟩

/-- StepRunsDecodedWord and IllegalWordRecorded: a word that decodes, nothing presented, a word no row accepts. -/
theorem witness_Step :
    ((presentWord 0x05000000 ex).pending = [0x05000000#32] ∧ decode 0x05000000 = .ok .wtick) ∧ ex.pending = [] ∧
    ((presentWord 0x00000000 ex).pending = [0x00000000#32] ∧
      ∀ r ∈ opcodeTable, (0x00000000#32) &&& r.maskBits ≠ r.matchBits) := ⟨⟨rfl, rfl⟩, rfl, rfl, by decide⟩

/-- FaultsArePrecise: a step that records a fault and one that does not. -/
theorem witness_FaultsArePrecise :
    (∃ t, step (presentWord 0x11000005 ex) = .next t ∧ t.faults ≠ ex.faults) ∧
    (∃ t, step (presentWord 0x05000000 ex) = .next t ∧ t.faults = ex.faults) :=
  ⟨⟨_, rfl, by decide⟩, ⟨_, rfl, rfl⟩⟩

/-- OnlyHostAccessesFault: each fault kind of a decoded operation. -/
theorem witness_OnlyHostAccessesFault :
    ∀ i ∈ [Instr.rd 0x0E, .wr 0xFF 1, .wr 0x00 5, .wr 0x09 0], ∃ t, exec i ex = .next t ∧ t.faults ≠ ex.faults := by
  intro i hi
  simp only [List.mem_cons, List.not_mem_nil, or_false] at hi
  rcases hi with rfl | rfl | rfl | rfl <;> exact ⟨_, rfl, by decide⟩

/-- FieldsHaveOnlyTheirWriters and MeasurementsByEventsSetpointsByHost: an operation that changes each field, an event
operation and a host operation. -/
theorem witness_FieldsHaveOnlyTheirWriters :
    (∃ t, exec .btick { ex with wph := 3, acc := ⟨27, 0⟩ } = .next t ∧ t.acc.get .ch0 ≠ 27 ∧ t.rpm ≠ ex.rpm ∧ t.wph ≠ 3) ∧
    (∃ t, exec (.adcdone 0x9600) ex = .next t ∧ t.temp ≠ ex.temp ∧ t.adcSel ≠ ex.adcSel) ∧
    (∃ t, exec (.wr 0x08 3) ex = .next t ∧ t.hp.ch0 ≠ ex.hp.ch0) ∧
    (∃ t, exec (.actFuel 50) { ex with board := immediateBoard } = .next t ∧ t.cmp.ch1 ≠ ex.cmp.ch1 ∧ t.cmpAct ≠ ex.cmpAct) ∧
    (∃ t, exec .wtick running = .next t ∧ t.wcnt ≠ running.wcnt) ∧ (∃ t, exec .ptick ex = .next t ∧ t.pcnt ≠ ex.pcnt) ∧
    (∃ t, exec (.oilin true) ex = .next t ∧ t.oilPin ≠ ex.oilPin) ∧
    (∃ t, exec .gate { ex with rpm := 1451, oilPin := true } = .next t ∧ t.lamp ≠ ex.lamp ∧ t.armed ≠ ex.armed) ∧
    hostOperation (.wr 0x08 3) = true ∧ hostOperation .btick = false :=
  ⟨⟨_, rfl, by decide⟩, ⟨_, rfl, by decide⟩, ⟨_, rfl, by decide⟩, ⟨_, rfl, by decide⟩, ⟨_, rfl, by decide⟩,
    ⟨_, rfl, by decide⟩, ⟨_, rfl, by decide⟩, ⟨_, rfl, by decide⟩, rfl, rfl⟩

/-- StepKeepsInvariant: EX right after power-on meets the invariant and steps. -/
theorem witness_StepKeepsInvariant : ex.Inv ∧ ∃ t, step (presentWord 0x05000000 ex) = .next t :=
  ⟨{ wcnt_pos := by intro c; cases c <;> decide
     hp_pos := by intro c; cases c <;> decide
     pcnt_le := by decide
     wph_lt := by decide
     temp_legal := .inl rfl
     lamp_gated := by decide }, ⟨_, rfl⟩⟩

end Sys2Proof.Tests
end

section
/-! PROOFS. 00_scope.md R10: each named check of a configuration says its rule (c1) to (c10), and a board is built of a
configuration exactly when it passes every check. -/

namespace Sys2Proof.Proofs.Scope

open Sys2Proof Sys2Proof.Machine Sys2Proof.Slice0

/-! ## The build of a board -/

theorem mem_all (k : CfgCheck) : k ∈ CfgCheck.all := by cases k <;> simp [CfgCheck.all]

theorem failedCheck_eq_none_iff (c : Cfg) : c.failedCheck = none ↔ ∀ k, c.passes k = true := by
  simp [Cfg.failedCheck, mem_all]

/-- The check a configuration is refused by is one it fails. -/
theorem passes_of_failedCheck {c : Cfg} {k : CfgCheck} (h : c.failedCheck = some k) : c.passes k = false := by
  simpa using List.find?_some h

theorem build_eq_error_iff (c : Cfg) (k : CfgCheck) : Board.build c = .error k ↔ c.failedCheck = some k := by
  unfold Board.build
  split <;> simp_all

/-- A board that is built carries the configuration it was built of. -/
theorem build_ok_iff (c : Cfg) : (∃ b, Board.build c = .ok b ∧ b.cfg = c) ↔ c.failedCheck = none := by
  unfold Board.build
  split <;> simp_all

/-! ## Each check says its rule -/

/-- A table is `adjacent` for a decided relation exactly when its neighbours are related. -/
theorem adjacent_iff_neighbours {p : Nat → Nat → Bool} {r : Nat → Nat → Prop} (h : ∀ a b, p a b = true ↔ r a b)
    (l : List Nat) : adjacent p l = true ↔ Neighbours r l := by
  simp only [adjacent_iff, h, Neighbours]

theorem tableShape_iff (e : List Nat) (w : Nat) :
    tableShape e w = true ↔ 2 ≤ e.length ∧ (∀ x ∈ e, x ≤ 0xFFFF) ∧ 1 ≤ w := by
  simp [tableShape, and_assoc]

theorem halfPeriods_iff (d : Half) (e : List Nat) :
    halfPeriods d e = true ↔ ∀ x ∈ e, 1 ≤ x ∧ x < d.toNat := by
  simp [halfPeriods]

theorem passes_c1_iff (c : Cfg) : c.passes .c1 = true ↔
    2 ≤ c.tempTable.length ∧ Neighbours (fun a b => a > b) c.tempTable ∧ ∀ t ∈ c.tempTable, t ≤ 255 := by
  have hdesc := adjacent_iff_neighbours (p := fun a b => decide (b < a)) (r := fun a b => a > b) (by simp) c.tempTable
  simp [Cfg.passes, hdesc, and_assoc]

theorem passes_c2_iff (c : Cfg) : c.passes .c2 = true ↔
    c.tempBase + c.tempStep * (c.tempTable.length - 1) < c.tempHot.toNat := by
  simp [Cfg.passes]

theorem passes_c3_iff (c : Cfg) : c.passes .c3 = true ↔
    ∀ e w, (e, w) ∈ [(c.tabRpm, c.wRpm), (c.tabSpd, c.wSpd), (c.tabTmp, c.wTmp), (c.tabFuel, c.wFuel)] →
      2 ≤ e.length ∧ (∀ x ∈ e, x ≤ 0xFFFF) ∧ 1 ≤ w := by
  simp only [← tableShape_iff]
  simp [Cfg.passes, or_imp, forall_and, and_assoc]

theorem passes_c4_iff (c : Cfg) : c.passes .c4 = true ↔
    ∀ x ∈ c.tabRpm ++ c.tabSpd, 1 ≤ x ∧ x < c.hpDisabled.toNat := by
  simp only [Cfg.passes, Bool.and_eq_true, halfPeriods_iff, List.forall_mem_append]

theorem passes_c5_iff (c : Cfg) : c.passes .c5 = true ↔ Neighbours (fun a b => a ≥ b) c.tabRpm :=
  adjacent_iff_neighbours (by simp) c.tabRpm

theorem passes_c6_iff (c : Cfg) : c.passes .c6 = true ↔ c.tmpLo + c.wTmp * (c.tabTmp.length - 1) = c.tmpHi := by
  simp [Cfg.passes]

theorem passes_c7_iff (c : Cfg) : c.passes .c7 = true ↔ c.fuelLo + c.wFuel * (c.tabFuel.length - 1) = c.fuelHi := by
  simp [Cfg.passes]

/-- The rule's step `b - a` is a difference of naturals; beside `a < b` it is the check's sum. -/
theorem passes_c8_iff (c : Cfg) : c.passes .c8 = true ↔
    Neighbours (fun a b => a < b ∧ c.wFuel ≤ b - a) c.tabFuel ∨
    Neighbours (fun a b => b < a ∧ c.wFuel ≤ a - b) c.tabFuel := by
  simp only [Cfg.passes, Bool.or_eq_true]
  refine or_congr (adjacent_iff_neighbours (fun a b => ?_) _) (adjacent_iff_neighbours (fun a b => ?_) _) <;>
    simp only [Bool.and_eq_true, decide_eq_true_eq] <;> omega

theorem passes_c9_iff (c : Cfg) : c.passes .c9 = true ↔
    1 ≤ c.rpmDiv ∧ 1 ≤ c.spdDiv ∧ 1 ≤ c.windowTicks ∧ c.phase0 < c.windowTicks ∧ c.phase1 < c.windowTicks ∧
      (c.phase0 ≠ c.phase1 ∨ c.windowTicks = 1) ∧ c.windowTicks ≤ 256 := by
  simp only [Cfg.passes, Bool.and_eq_true, Bool.or_eq_true, decide_eq_true_eq, and_assoc]

theorem passes_c10_iff (c : Cfg) : c.passes .c10 = true ↔ 1 ≤ c.pwmTop ∧ c.pwmTop ≤ 0xFFFF := by
  simp [Cfg.passes]

/-! ## The rules together -/

/-- A configuration passes every check exactly when it meets the rules, with (c2) and (c4) below its own sentinels. -/
theorem forall_passes_iff_rules (c : Cfg) :
    (∀ k, c.passes k = true) ↔ ConfigurationRules c.tempHot.toNat c.hpDisabled.toNat c := by
  unfold ConfigurationRules
  rw [← passes_c1_iff, ← passes_c2_iff, ← passes_c3_iff, ← passes_c4_iff, ← passes_c5_iff, ← passes_c6_iff,
    ← passes_c7_iff, ← passes_c8_iff, ← passes_c9_iff, ← passes_c10_iff]
  constructor
  · intro h
    exact ⟨h _, h _, h _, h _, h _, h _, h _, h _, h _, h _⟩
  · rintro ⟨h1, h2, h3, h4, h5, h6, h7, h8, h9, h10⟩ k
    cases k <;> assumption

/-- For any sentinels, a board is built of a configuration exactly when it meets the rules below those sentinels. -/
theorem build_ok_iff_rules (c : Cfg) : (∃ b, Board.build c = .ok b ∧ b.cfg = c) ↔
    ConfigurationRules c.tempHot.toNat c.hpDisabled.toNat c := by
  rw [build_ok_iff, failedCheck_eq_none_iff, forall_passes_iff_rules]

/-- The source's values of the two sentinels that bound (c2) and (c4) (00_scope.md R9). -/
theorem sentinels_of_sourceFixed {c : Cfg} (h : c.sourceFixed = true) : c.tempHot = 255 ∧ c.hpDisabled = 0xFFFF := by
  simp only [Cfg.sourceFixed, Bool.and_eq_true, beq_iff_eq] at h
  tauto

/-- Settles O50: each check says its rule, and the source's sentinels 255 and 0xFFFF are the bounds of (c2) and (c4). -/
theorem illFormedConfigurationRefused : Obligations.IllFormedConfigurationRefused := by
  intro c
  refine ⟨fun hsource => ?_, fun k hrefused => passes_of_failedCheck ((build_eq_error_iff c k).1 hrefused)⟩
  obtain ⟨hhot, hdisabled⟩ := sentinels_of_sourceFixed hsource
  have hbuild := build_ok_iff_rules c
  rw [hhot, hdisabled] at hbuild
  exact hbuild

end Sys2Proof.Proofs.Scope
end

section
/-! PROOFS. 20_memory.md R103, R104: the accesses of the host register space that fault, with the word each records, and
the fields of the STATUS word. -/

namespace Sys2Proof.Proofs.Memory

open Sys2Proof Sys2Proof.Machine Sys2Proof.Slice0

/-! ## The words of RD and WR as numbers -/

/-- The fields of a word at their places (30_encoding.md R150). -/
theorem packWord_eq_ofNat (op arg : Byte) (data : Half) :
    packWord op arg data = BitVec.ofNat 32 (op.toNat * 0x1000000 + arg.toNat * 65536 + data.toNat) := by
  apply BitVec.eq_of_toNat_eq
  rw [packWord, BitVec.toNat_append, BitVec.toNat_append, ← Nat.shiftLeft_add_eq_or_of_lt data.isLt,
    ← Nat.shiftLeft_add_eq_or_of_lt arg.isLt, BitVec.toNat_ofNat]
  simp only [Nat.shiftLeft_eq]
  omega

theorem encode_rd (a : Byte) : encode (.rd a) = BitVec.ofNat 32 (0x10000000 + a.toNat * 65536) :=
  packWord_eq_ofNat 0x10 a 0

theorem encode_wr (a : Byte) (v : Half) :
    encode (.wr a v) = BitVec.ofNat 32 (0x11000000 + a.toNat * 65536 + v.toNat) :=
  packWord_eq_ofNat 0x11 a v

/-! ## An access that names a fault records it, with its own word -/

theorem exec_rd_of_error {a : Byte} {k : FaultKind} {s : State} (h : busRead a s = .error k) :
    exec (.rd a) s = .next (faulted ⟨k, BitVec.ofNat 32 (0x10000000 + a.toNat * 65536)⟩ s) := by
  rw [exec_rd, h, encode_rd]
  rfl

theorem exec_wr_of_error {a : Byte} {v : Half} {k : FaultKind} {s : State} (h : busWrite a v s = .error k) :
    exec (.wr a v) s = .next (faulted ⟨k, BitVec.ofNat 32 (0x11000000 + a.toNat * 65536 + v.toNat)⟩ s) := by
  rw [exec_wr, h, encode_wr]
  rfl

/-! ## Which accesses name a fault (20_memory.md R103, 46_host_bus.md R504) -/

theorem busRead_unmapped {a : Byte} (s : State) (h : 0x0E ≤ a.toNat) : busRead a s = .error (.busUnmapped a) := by
  rw [busRead, (HostReg.ofAddr_none_iff a).2 h]

theorem busWrite_unmapped {a : Byte} (v : Half) (s : State) (h : 0x0E ≤ a.toNat) :
    busWrite a v s = .error (.busUnmapped a) := by
  rw [busWrite, (HostReg.ofAddr_none_iff a).2 h]

/-- A write at a register's address is a write of that register. -/
theorem busWrite_addr (r : HostReg) (v : Half) (s : State) : busWrite r.addr v s = regWrite r r.addr v s := by
  rw [busWrite, HostReg.ofAddr_addr]

/-- Below the reserved addresses every address is a register's. -/
theorem exists_addr_of_lt {a : Byte} (h : a.toNat < 0x0E) : ∃ r : HostReg, a = r.addr := by
  cases hr : HostReg.ofAddr a with
  | none => exact absurd ((HostReg.ofAddr_none_iff a).1 hr) (by omega)
  | some r => exact ⟨r, HostReg.addr_of_ofAddr hr⟩

theorem busWrite_readonly {a : Byte} (v : Half) (s : State) (h : a.toNat ≤ 0x07 ∨ a.toNat = 0x0C ∨ a.toNat = 0x0D) :
    busWrite a v s = .error (.busReadonly a) := by
  obtain ⟨r, rfl⟩ := exists_addr_of_lt (a := a) (by omega)
  rw [busWrite_addr]
  cases r
  case hp0 | hp1 | cmp0 | cmp1 => simp [HostReg.addr] at h
  all_goals rfl

theorem busWrite_hp_zero {a : Byte} (s : State) (h : a.toNat = 0x08 ∨ a.toNat = 0x09) :
    busWrite a 0 s = .error (.badValue a 0) := by
  obtain ⟨r, rfl⟩ := exists_addr_of_lt (a := a) (by omega)
  rw [busWrite_addr]
  cases r
  case hp0 | hp1 => rfl
  all_goals simp [HostReg.addr] at h

/-- Settles O32: each bad access names its fault, and an access that names a fault only records it. -/
theorem badAccessRecordsFault : Obligations.BadAccessRecordsFault := fun s _ v =>
  ⟨fun hreserved => ⟨exec_rd_of_error (busRead_unmapped s hreserved), exec_wr_of_error (busWrite_unmapped v s hreserved)⟩,
    fun hreadonly => exec_wr_of_error (busWrite_readonly v s hreadonly),
    fun hhalfPeriod => exec_wr_of_error (busWrite_hp_zero s hhalfPeriod)⟩

/-! ## The STATUS word -/

/-- The one-bit fields of STATUS, bit 0 first (R104). -/
def statusFlags (s : State) : List Bool :=
  [s.fout.ch0, s.fout.ch1, s.pout .ch0, s.pout .ch1, s.lamp, s.armed, s.oilPin, adcSelBit s.adcSel]

/-- The one-bit fields are the low byte of STATUS, the window phase is the high byte. -/
theorem status_getLsbD (s : State) (i : Nat) :
    s.status.getLsbD i = if i < 8 then (statusFlags s).getD i false else s.wph.getLsbD (i - 8) := by
  rw [State.status, BitVec.getLsbD_append]
  simp only [BitVec.getLsbD_append]
  match i with
  | 0 | 1 | 2 | 3 | 4 | 5 | 6 | 7 => simp [statusFlags, Pair.get]
  | i + 8 => simp

theorem status_extractLsb'_wph (s : State) : s.status.extractLsb' 8 8 = s.wph := by
  ext i hi
  rw [BitVec.getElem_extractLsb', status_getLsbD]
  simp [hi]

/-- The level of a PWM output is the comparison of numbers (10_state.md R68). -/
theorem pout_eq (s : State) (c : Chan) : s.pout c = decide (s.pcnt.toNat < (s.cmpAct.get c).toNat) := rfl

theorem adcSelBit_eq (x : AdcSel) : adcSelBit x = decide (x = .fuel) := by cases x <;> rfl

/-- Settles O30: each bit of the STATUS word is its field, with pout by its comparison. -/
theorem statusWordLayout : Obligations.StatusWordLayout := fun s =>
  ⟨status_getLsbD s 0, status_getLsbD s 1,
    (status_getLsbD s 2).trans (pout_eq s .ch0), (status_getLsbD s 3).trans (pout_eq s .ch1),
    status_getLsbD s 4, status_getLsbD s 5, status_getLsbD s 6,
    (status_getLsbD s 7).trans (adcSelBit_eq s.adcSel), status_extractLsb'_wph s⟩

end Sys2Proof.Proofs.Memory
end

section
/-! PROOFS. 30_encoding.md: a word decodes to an operation exactly when it is that operation's encoding (R152, R154),
and to some operation exactly when a row of the opcode table accepts it (R155, R160); the words the assembler gives
(R158, R159). -/

namespace Sys2Proof.Proofs.Encoding

open Sys2Proof Sys2Proof.Machine Sys2Proof.Slice0

/-! ## A word decodes to the operation it encodes -/

theorem word_eq_iff_fields {w w' : Word} :
    w = w' ↔ opOf w = opOf w' ∧ argOf w = argOf w' ∧ dataOf w = dataOf w' := by
  rw [← packWord_inj, packWord_fields, packWord_fields]

theorem encode_eq_iff {i : Instr} {w : Word} :
    encode i = w ↔ i.op = opOf w ∧ i.arg = argOf w ∧ i.data = dataOf w := by
  rw [encode, ← packWord_inj, packWord_fields]

theorem decodePlain_eq_ok_iff {arg : Byte} {data : Half} {i j : Instr} :
    decodePlain arg data i = .ok j ↔ arg = 0 ∧ data = 0 ∧ i = j := by
  unfold decodePlain
  split_ifs <;> simp_all

theorem decodeBit_eq_ok_iff {arg : Byte} {data : Half} {f : Bool → Instr} {j : Instr} :
    decodeBit arg data f = .ok j ↔ data = 0 ∧ (arg = 0 ∧ f false = j ∨ arg = 1 ∧ f true = j) := by
  unfold decodeBit
  split_ifs <;> simp_all

/-- A DATA field with bits [15:8] zero is its low byte, widened. -/
theorem setWidth_low_of_high_zero {data : Half} (h : data.extractLsb' 8 8 = 0) :
    (data.extractLsb' 0 8).setWidth 16 = data := by
  have hbytes : data.extractLsb' 8 8 ++ data.extractLsb' 0 8 = data.extractLsb' 0 16 :=
    BitVec.extractLsb'_append_extractLsb'_eq_extractLsb' rfl
  rw [h, BitVec.extractLsb'_eq_self] at hbytes
  rw [BitVec.setWidth_eq_append (by decide)]
  exact hbytes

theorem decodeAct8_eq_ok_iff {data : Half} {f : Byte → Instr} {j : Instr} :
    decodeAct8 data f = .ok j ↔ ∃ v : Byte, v.setWidth 16 = data ∧ f v = j := by
  unfold decodeAct8
  constructor
  · intro h
    split_ifs at h with hhigh
    exact ⟨_, setWidth_low_of_high_zero hhigh, Except.ok.inj h⟩
  · rintro ⟨v, rfl, rfl⟩
    simp

theorem fields_of_decodeAct {arg : Byte} {data : Half} {i : Instr} (h : decodeAct arg data = .ok i) :
    i.op = 0x20 ∧ i.arg = arg ∧ i.data = data := by
  unfold decodeAct at h
  split_ifs at h with hrpm hspd htmp hfuel
  · cases h
    exact ⟨rfl, hrpm.symm, rfl⟩
  · obtain ⟨v, rfl, rfl⟩ := decodeAct8_eq_ok_iff.1 h
    exact ⟨rfl, hspd.symm, rfl⟩
  · obtain ⟨v, rfl, rfl⟩ := decodeAct8_eq_ok_iff.1 h
    exact ⟨rfl, htmp.symm, rfl⟩
  · obtain ⟨v, rfl, rfl⟩ := decodeAct8_eq_ok_iff.1 h
    exact ⟨rfl, hfuel.symm, rfl⟩

/-- No bit of a word that decodes is dropped (R155). -/
theorem encode_of_decode {w : Word} {i : Instr} (h : decode w = .ok i) : encode i = w := by
  rw [encode_eq_iff]
  unfold decode at h
  split at h
  case h_1 hop | h_3 hop | h_7 hop =>
    obtain ⟨hdata, ⟨harg, rfl⟩ | ⟨harg, rfl⟩⟩ := decodeBit_eq_ok_iff.1 h
    all_goals exact ⟨hop.symm, harg.symm, hdata.symm⟩
  case h_2 hop | h_5 hop | h_6 hop | h_11 hop | h_12 hop =>
    obtain ⟨harg, hdata, rfl⟩ := decodePlain_eq_ok_iff.1 h
    exact ⟨hop.symm, harg.symm, hdata.symm⟩
  case h_4 hop =>
    split_ifs at h with harg
    cases h
    exact ⟨hop.symm, harg.symm, rfl⟩
  case h_8 hop =>
    split_ifs at h with hdata
    cases h
    exact ⟨hop.symm, rfl, hdata.symm⟩
  case h_9 hop =>
    cases h
    exact ⟨hop.symm, rfl, rfl⟩
  case h_10 hop =>
    rw [hop]
    exact fields_of_decodeAct h
  case h_13 => cases h

theorem decode_encode (i : Instr) : decode (encode i) = .ok i := by
  obtain ⟨hop, harg, hdata⟩ := Laws.EncodedFields.of_encode i
  rw [decode, hop, harg, hdata]
  cases i
  case edge c | bticke c => cases c <;> rfl
  case oilin l => cases l <;> rfl
  case actSpd v | actTmp v | actFuel v => exact decodeAct8_eq_ok_iff.2 ⟨v, rfl, rfl⟩
  all_goals rfl

theorem decode_eq_ok_iff {w : Word} {i : Instr} : decode w = .ok i ↔ encode i = w :=
  ⟨encode_of_decode, fun h => h ▸ decode_encode i⟩

/-! ## The rows of the opcode table -/

theorem opcodeTable_rows_differ : ∀ r ∈ opcodeTable, ∀ r' ∈ opcodeTable, r ≠ r' →
    (r.matchBits ^^^ r'.matchBits) &&& r.maskBits &&& r'.maskBits ≠ 0 := by
  decide

/-- Two rows that accept one word agree on every bit that both fix. -/
theorem accepts_both {r r' : OpRow} {w : Word} (h : r.accepts w = true) (h' : r'.accepts w = true) :
    (r.matchBits ^^^ r'.matchBits) &&& r.maskBits &&& r'.maskBits = 0 := by
  rw [OpRow.accepts, beq_iff_eq] at h h'
  rw [← h, ← h']
  ext i hi
  simp only [BitVec.getElem_and, BitVec.getElem_xor]
  cases w[i] <;> cases r.maskBits[i] <;> simp

theorem row_unique {r r' : OpRow} {w : Word} (hr : r ∈ opcodeTable) (hr' : r' ∈ opcodeTable)
    (h : r.accepts w = true) (h' : r'.accepts w = true) : r = r' :=
  by_contra fun hne => opcodeTable_rows_differ r hr r' hr' hne (accepts_both h h')

/-- The fields of a word are those of an operation of the row (R150, R154). -/
def RowFields (r : OpRow) (op arg : Byte) (data : Half) : Prop :=
  op &&& opOf r.maskBits = opOf r.matchBits ∧ arg &&& argOf r.maskBits = argOf r.matchBits ∧
    data &&& dataOf r.maskBits = dataOf r.matchBits

theorem accepts_iff_fields {r : OpRow} {w : Word} :
    r.accepts w = true ↔ RowFields r (opOf w) (argOf w) (dataOf w) := by
  rw [OpRow.accepts, beq_iff_eq, word_eq_iff_fields]
  simp only [RowFields, opOf, argOf, dataOf, BitVec.extractLsb'_and]

/-! ### The mask of each field (R152) -/

theorem and_byteMask (b : Byte) : b &&& 0xFF#8 = b := BitVec.and_allOnes

theorem and_halfMask (d : Half) : d &&& 0xFFFF#16 = d := BitVec.and_allOnes

theorem and_bitMask_eq_zero_iff (b : Byte) : b &&& 0xFE#8 = 0#8 ↔ b = 0#8 ∨ b = 1#8 := by
  revert b
  decide

theorem and_highMask_eq_zero_iff (d : Half) : d &&& 0xFF00#16 = 0#16 ↔ ∃ v : Byte, v.setWidth 16 = d := by
  constructor
  · intro h
    have hhigh := congrArg (BitVec.extractLsb' 8 8) h
    rw [BitVec.extractLsb'_and] at hhigh
    exact ⟨_, setWidth_low_of_high_zero ((and_byteMask _).symm.trans hhigh)⟩
  · rintro ⟨v, rfl⟩
    calc v.setWidth 16 &&& 0xFF00#16 = (0#8 ++ v) &&& (0xFF#8 ++ 0#8) := by
          rw [BitVec.setWidth_eq_append (by decide)]
          rfl
      _ = (0#8 &&& 0xFF#8) ++ (v &&& 0#8) := BitVec.and_append
      _ = 0#16 := by
          rw [BitVec.and_zero]
          rfl

/-! ### The rows are the operations -/

theorem chanArg_zero_or_one (c : Chan) : chanArg c = 0#8 ∨ chanArg c = 1#8 := by
  cases c
  · exact .inl rfl
  · exact .inr rfl

/-- Every operation has its row, by its mnemonic: the operands lie in the bits that the row's mask leaves free. -/
theorem exists_row_of_encode (i : Instr) :
    ∃ r ∈ opcodeTable, r.accepts (encode i) = true ∧ r.mnemonic = i.mnemonic := by
  obtain ⟨hop, harg, hdata⟩ := Laws.EncodedFields.of_encode i
  simp only [accepts_iff_fields, hop, harg, hdata]
  cases i
  all_goals simp [opcodeTable, RowFields, Instr.op, Instr.arg, Instr.data, Instr.mnemonic, opOf, argOf, dataOf,
    and_bitMask_eq_zero_iff, and_highMask_eq_zero_iff, chanArg_zero_or_one]

/-- The fields of every word of a row are those of an operation: the free bits of the mask are operands. -/
theorem exists_fields_of_row {r : OpRow} (hr : r ∈ opcodeTable) {op arg : Byte} {data : Half}
    (h : RowFields r op arg data) : ∃ i : Instr, i.op = op ∧ i.arg = arg ∧ i.data = data := by
  simp only [opcodeTable, List.mem_cons, List.not_mem_nil, or_false] at hr
  rcases hr with rfl | rfl | rfl | rfl | rfl | rfl | rfl | rfl | rfl | rfl | rfl | rfl | rfl | rfl | rfl
  all_goals simp only [RowFields, opOf, argOf, dataOf, BitVec.ofNat_eq_ofNat, BitVec.reduceExtractLsb', and_byteMask,
    and_halfMask, and_bitMask_eq_zero_iff, and_highMask_eq_zero_iff, BitVec.and_zero, true_and, and_true] at h
  · obtain ⟨rfl, rfl | rfl, rfl⟩ := h
    exacts [⟨.edge .ch0, rfl, rfl, rfl⟩, ⟨.edge .ch1, rfl, rfl, rfl⟩]
  · obtain ⟨rfl, rfl, rfl⟩ := h
    exact ⟨.btick, rfl, rfl, rfl⟩
  · obtain ⟨rfl, rfl | rfl, rfl⟩ := h
    exacts [⟨.bticke .ch0, rfl, rfl, rfl⟩, ⟨.bticke .ch1, rfl, rfl, rfl⟩]
  · obtain ⟨rfl, rfl⟩ := h
    exact ⟨.adcdone data, rfl, rfl, rfl⟩
  · obtain ⟨rfl, rfl, rfl⟩ := h
    exact ⟨.wtick, rfl, rfl, rfl⟩
  · obtain ⟨rfl, rfl, rfl⟩ := h
    exact ⟨.ptick, rfl, rfl, rfl⟩
  · obtain ⟨rfl, rfl | rfl, rfl⟩ := h
    exacts [⟨.oilin false, rfl, rfl, rfl⟩, ⟨.oilin true, rfl, rfl, rfl⟩]
  · obtain ⟨rfl, rfl⟩ := h
    exact ⟨.rd arg, rfl, rfl, rfl⟩
  · exact ⟨.wr arg data, h.symm, rfl, rfl⟩
  · obtain ⟨rfl, rfl⟩ := h
    exact ⟨.actRpm data, rfl, rfl, rfl⟩
  · obtain ⟨rfl, rfl, v, rfl⟩ := h
    exact ⟨.actSpd v, rfl, rfl, rfl⟩
  · obtain ⟨rfl, rfl, v, rfl⟩ := h
    exact ⟨.actTmp v, rfl, rfl, rfl⟩
  · obtain ⟨rfl, rfl, v, rfl⟩ := h
    exact ⟨.actFuel v, rfl, rfl, rfl⟩
  · obtain ⟨rfl, rfl, rfl⟩ := h
    exact ⟨.gate, rfl, rfl, rfl⟩
  · obtain ⟨rfl, rfl, rfl⟩ := h
    exact ⟨.reset, rfl, rfl, rfl⟩

theorem decodes_iff_accepted (w : Word) : (∃ i, decode w = .ok i) ↔ ∃ r ∈ opcodeTable, r.accepts w = true := by
  constructor
  · rintro ⟨i, hi⟩
    obtain ⟨r, hr, haccepts, -⟩ := exists_row_of_encode i
    exact ⟨r, hr, encode_of_decode hi ▸ haccepts⟩
  · rintro ⟨r, hr, haccepts⟩
    obtain ⟨i, hi⟩ := exists_fields_of_row hr (accepts_iff_fields.1 haccepts)
    exact ⟨i, decode_eq_ok_iff.2 (encode_eq_iff.2 hi)⟩

theorem mnemonic_of_accepts {w : Word} {i : Instr} {r : OpRow} (hi : decode w = .ok i) (hr : r ∈ opcodeTable)
    (h : r.accepts w = true) : r.mnemonic = i.mnemonic := by
  obtain ⟨r', hr', haccepts, hmnemonic⟩ := exists_row_of_encode i
  rw [encode_of_decode hi] at haccepts
  rw [row_unique hr hr' h haccepts, hmnemonic]

/-- Settles O46: a row accepts each operation's word, its free bits are operands, and no two rows share a word. -/
theorem decodeAgreesWithOpcodeTable : Obligations.DecodeAgreesWithOpcodeTable :=
  ⟨decodes_iff_accepted, fun _ _ _ => mnemonic_of_accepts, fun _ _ _ => row_unique⟩

theorem decode_ne_ok_of_no_row {w : Word} (h : ∀ r ∈ opcodeTable, r.accepts w = false) (i : Instr) :
    decode w ≠ .ok i := by
  intro hi
  obtain ⟨r, hr, haccepts⟩ := (decodes_iff_accepted w).1 ⟨i, hi⟩
  exact absurd haccepts (by simp [h r hr])

theorem illegalExamples_no_row : ∀ w ∈ [0x00000000#32, 0x01020000#32, 0x20040000#32, 0x20020100#32, 0x02000001#32],
    ∀ r ∈ opcodeTable, r.accepts w = false := by
  intro w hw
  fin_cases hw <;> decide

/-- Settles O47: each example is the word its operation encodes to, and no row accepts an illegal word. -/
theorem encodingExamplesDecode : Obligations.EncodingExamplesDecode :=
  ⟨decode_encode (.edge .ch1), decode_encode (.bticke .ch0), decode_encode (.adcdone 0x9600),
    decode_encode (.oilin true), decode_encode (.rd 0x00), decode_encode (.rd 0x04), decode_encode (.wr 0x08 18),
    decode_encode (.wr 0x0B 0x0100), decode_encode (.actRpm 1500), decode_encode (.actTmp 67),
    decode_encode (.actFuel 50), decode_encode .gate, decode_encode .reset,
    fun w hw => decode_ne_ok_of_no_row (illegalExamples_no_row w hw)⟩

/-! ## The assembler -/

theorem assemble_of_refused {cfg : Cfg} {l : AsmLine} {k : AsmCheck} (h : l.failedCheck = some k) :
    assemble cfg l = .error k := by
  rw [assemble, h]

theorem assemble_of_inRange {cfg : Cfg} {l : AsmLine} (h : l.failedCheck = none) :
    assemble cfg l = .ok ((l.expand cfg).map encode) := by
  rw [assemble, h]

/-- A line in range that stands for n copies of one operation gives n copies of its word. -/
theorem assemble_of_copies {cfg : Cfg} {l : AsmLine} {i : Instr} {n : Nat} {w : Word} (h : l.failedCheck = none)
    (hcopies : l.expand cfg = List.replicate n i) (hword : encode i = w) :
    assemble cfg l = .ok (List.replicate n w) := by
  rw [assemble_of_inRange h, hcopies, List.map_replicate, hword]

theorem assemble_of_single {cfg : Cfg} {l : AsmLine} {i : Instr} {w : Word} (h : l.failedCheck = none)
    (hsingle : l.expand cfg = [i]) (hword : encode i = w) : assemble cfg l = .ok [w] :=
  assemble_of_copies (n := 1) h hsingle hword

/-- Lines in range that stand for the same operations give the same words. -/
theorem assemble_congr {cfg : Cfg} {l l' : AsmLine} (h : l.failedCheck = none) (h' : l'.failedCheck = none)
    (hexpand : l.expand cfg = l'.expand cfg) : assemble cfg l = assemble cfg l' := by
  rw [assemble_of_inRange h, assemble_of_inRange h', hexpand]

/-! ### The words of operands as numbers -/

theorem packWord_ofNat (op : Byte) {a d : Nat} (ha : a < 256) (hd : d < 65536) :
    packWord op (BitVec.ofNat 8 a) (BitVec.ofNat 16 d) = BitVec.ofNat 32 (op.toNat * 16777216 + a * 65536 + d) := by
  rw [packWord_eq_ofNat, BitVec.toNat_ofNat, BitVec.toNat_ofNat, Nat.mod_eq_of_lt ha, Nat.mod_eq_of_lt hd]

section
variable {cfg : Cfg} {c l d v b a : Nat}

theorem encode_edge_chanOfNat (hc : c ≤ 1) :
    encode (.edge (chanOfNat c)) = BitVec.ofNat 32 (0x01000000 + c * 65536) := by
  interval_cases c <;> rfl

theorem encode_bticke_chanOfNat (hc : c ≤ 1) :
    encode (.bticke (chanOfNat c)) = BitVec.ofNat 32 (0x03000000 + c * 65536) := by
  interval_cases c <;> rfl

theorem encode_oilin_beq_one (hl : l ≤ 1) : encode (.oilin (l == 1)) = BitVec.ofNat 32 (0x07000000 + l * 65536) := by
  interval_cases l <;> rfl

theorem encode_adcdone_ofNat (hd : d < 65536) :
    encode (.adcdone (BitVec.ofNat 16 d)) = BitVec.ofNat 32 (0x04000000 + d) :=
  packWord_ofNat 0x04 (a := 0) (by omega) hd

theorem encode_rd_ofNat (ha : a < 256) :
    encode (.rd (BitVec.ofNat 8 a)) = BitVec.ofNat 32 (0x10000000 + a * 65536) := by
  rw [Memory.encode_rd, BitVec.toNat_ofNat, Nat.mod_eq_of_lt ha]

theorem encode_wr_ofNat (ha : a < 256) (hv : v < 65536) :
    encode (.wr (BitVec.ofNat 8 a) (BitVec.ofNat 16 v)) = BitVec.ofNat 32 (0x11000000 + a * 65536 + v) := by
  rw [Memory.encode_wr, BitVec.toNat_ofNat, BitVec.toNat_ofNat, Nat.mod_eq_of_lt ha, Nat.mod_eq_of_lt hv]

theorem encode_actRpm_ofNat (hv : v < 65536) :
    encode (.actRpm (BitVec.ofNat 16 v)) = BitVec.ofNat 32 (0x20000000 + v) :=
  packWord_ofNat 0x20 (a := 0) (by omega) hv

theorem encode_actSpd_ofNat (hb : b < 256) :
    encode (.actSpd (BitVec.ofNat 8 b)) = BitVec.ofNat 32 (0x20010000 + b) := by
  rw [encode, Instr.data, BitVec.setWidth_ofNat_of_le_of_lt (by decide) hb]
  exact packWord_ofNat 0x20 (a := 1) (by omega) (by omega)

theorem encode_actTmp_ofNat (hb : b < 256) :
    encode (.actTmp (BitVec.ofNat 8 b)) = BitVec.ofNat 32 (0x20020000 + b) := by
  rw [encode, Instr.data, BitVec.setWidth_ofNat_of_le_of_lt (by decide) hb]
  exact packWord_ofNat 0x20 (a := 2) (by omega) (by omega)

theorem encode_actFuel_ofNat (hb : b < 256) :
    encode (.actFuel (BitVec.ofNat 8 b)) = BitVec.ofNat 32 (0x20030000 + b) := by
  rw [encode, Instr.data, BitVec.setWidth_ofNat_of_le_of_lt (by decide) hb]
  exact packWord_ofNat 0x20 (a := 3) (by omega) (by omega)

/-! ### The lines of R158 and R159 -/

theorem addr_of_registerNames : ∀ p ∈ registerNames, p.1.addr = BitVec.ofNat 8 p.2 ∧ p.2 < 256 := by
  decide

theorem assemble_rd {r : RegOperand} (hr : r.inRange = true) (haddr : r.addr = BitVec.ofNat 8 a) (ha : a < 256) :
    assemble cfg (.rd r) = .ok [BitVec.ofNat 32 (0x10000000 + a * 65536)] := by
  refine assemble_of_single (if_pos hr) rfl ?_
  rw [haddr, encode_rd_ofNat ha]

theorem assemble_wr {r : RegOperand} (hr : r.inRange = true) (haddr : r.addr = BitVec.ofNat 8 a) (ha : a < 256)
    (hv : v < 65536) : assemble cfg (.wr r v) = .ok [BitVec.ofNat 32 (0x11000000 + a * 65536 + v)] := by
  refine assemble_of_single ((if_pos hr).trans (if_pos hv)) rfl ?_
  rw [haddr, encode_wr_ofNat ha hv]

theorem number_inRange (ha : a < 256) : (RegOperand.number a).inRange = true :=
  decide_eq_true (by omega)

theorem number_not_inRange (ha : 255 < a) : ¬ (RegOperand.number a).inRange = true := by
  simpa [RegOperand.inRange] using ha

theorem assemble_disable (hc : c ≤ 1) (h : cfg.hpDisabled = 0xFFFF) :
    assemble cfg (.disable c) = assemble cfg (.wr (.number (8 + c)) 0xFFFF) := by
  refine assemble_congr (if_pos hc) ?_ ?_
  · exact (if_pos (number_inRange (by omega))).trans (if_pos (by decide))
  · simp only [AsmLine.expand, h]
    interval_cases c <;> rfl

end

/-- Settles O48: each line has its operation's word, and an operand out of range fails its check. -/
theorem assemblerWords : Obligations.AssemblerWords := by
  constructor
  · intro cfg c l d v b a hc hl hd hv hb ha
    have hreg := number_inRange ha
    exact ⟨assemble_of_single (if_pos hc) rfl (encode_edge_chanOfNat hc), assemble_of_single rfl rfl rfl,
      assemble_of_single (if_pos hc) rfl (encode_bticke_chanOfNat hc),
      assemble_of_single (if_pos hd) rfl (encode_adcdone_ofNat hd),
      assemble_of_single rfl rfl rfl, assemble_of_single rfl rfl rfl,
      assemble_of_single (if_pos hl) rfl (encode_oilin_beq_one hl),
      assemble_rd hreg rfl ha, assemble_wr hreg rfl ha hv,
      assemble_of_single (if_pos hv) rfl (encode_actRpm_ofNat hv),
      assemble_of_single (if_pos hb) rfl (encode_actSpd_ofNat hb),
      assemble_of_single (if_pos hb) rfl (encode_actTmp_ofNat hb),
      assemble_of_single (if_pos hb) rfl (encode_actFuel_ofNat hb),
      assemble_of_single rfl rfl rfl, assemble_of_single rfl rfl rfl, fun r n hname =>
        have ⟨haddr, hn⟩ := addr_of_registerNames _ hname
        ⟨assemble_rd rfl haddr hn, assemble_wr rfl haddr hn hv⟩⟩
  · intro cfg n v r
    refine ⟨fun hn => ?_, fun hn => ?_, fun hn => ?_⟩
    · have hbit : ¬ n ≤ 1 := by omega
      exact ⟨assemble_of_refused (if_neg hbit), assemble_of_refused (if_neg hbit),
        assemble_of_refused (if_neg hbit)⟩
    · have hreg := number_not_inRange hn
      have hbyte : ¬ n < 256 := by omega
      exact ⟨assemble_of_refused (if_neg hreg), assemble_of_refused (if_neg hreg), assemble_of_refused (if_neg hbyte),
        assemble_of_refused (if_neg hbyte), assemble_of_refused (if_neg hbyte)⟩
    · have hhalf : ¬ n < 65536 := by omega
      exact ⟨assemble_of_refused (if_neg hhalf), assemble_of_refused (if_neg hhalf),
        fun hr => assemble_of_refused ((if_pos hr).trans (if_neg hhalf))⟩

/-- Settles O49: each pseudo-operation stands for the operations of its expansion. -/
theorem pseudoOperationsExpand : Obligations.PseudoOperationsExpand := fun _ b _ _ hb hc =>
  ⟨assemble_congr (if_pos hb) (if_pos (show b * 256 < 65536 by omega)) rfl,
    assemble_of_copies (if_pos hc) rfl (encode_edge_chanOfNat hc), assemble_of_copies rfl rfl rfl,
    assemble_of_copies rfl rfl rfl, assemble_of_copies rfl rfl rfl, assemble_of_copies rfl rfl rfl,
    assemble_disable hc⟩

end Sys2Proof.Proofs.Encoding
end

section
/-! PROOFS. 40_pulse_counter.md: what EDGE, BTICK and BTICKE do to each channel (R200, R202, R206 to R211). A base tick is
read channel by channel: it drains a channel at most once, and nothing it does before or after touches that channel. -/

namespace Sys2Proof.Proofs.Pulse

open Sys2Proof Sys2Proof.Machine Sys2Proof.Slice0

/-! ## What is published -/

theorem toNat_fitRpm {x : Nat} (k : Nat) (h : x < 2 ^ 16) : (fitRpm x k).toNat = x := by
  rw [fitRpm, if_pos h, BitVec.toNat_ofNat, Nat.mod_eq_of_lt h]

theorem fitRpm_of_wide {x : Nat} (k : Nat) (h : 2 ^ 16 ≤ x) : fitRpm x k = Config.rpmDraw k :=
  if_neg h.not_gt

theorem toNat_fitSpeed {x : Nat} (k : Nat) (h : x < 2 ^ 8) : (fitSpeed x k).toNat = x := by
  rw [fitSpeed, if_pos h, BitVec.toNat_ofNat, Nat.mod_eq_of_lt h]

theorem fitSpeed_of_wide {x : Nat} (k : Nat) (h : 2 ^ 8 ≤ x) : fitSpeed x k = Config.speedDraw k :=
  if_neg h.not_gt

section
variable {c : Chan} {n : Nat} {s s' t : State}

/-- A state with the rate that `publish` gives has the rate of the count, or the draw. -/
theorem published_of_rateKept (h : RateKept c (publish c n s) t) : Published c n s t := by
  cases c
  case ch0 =>
    rintro x rfl
    exact ⟨fun hfits => h ▸ toNat_fitRpm s.draws hfits, fun hwide => h.trans (fitRpm_of_wide s.draws hwide)⟩
  case ch1 =>
    rintro x rfl
    exact ⟨fun hfits => h ▸ toNat_fitSpeed s.draws hfits, fun hwide => h.trans (fitSpeed_of_wide s.draws hwide)⟩

/-- What is published for a count depends on the board and the draws only. -/
theorem published_congr (hboard : s'.board = s.board) (hdraws : s'.draws = s.draws) :
    Published c n s' t ↔ Published c n s t := by
  unfold Published
  rw [hboard, hdraws]

/-- The rate of an empty window is 0 and fits, whatever the configuration (R208). -/
theorem rateOf_of_published_zero (h : Published c 0 s t) : rateOf c t = 0 := by
  cases c
  all_goals exact (h 0 (by simp)).1 (by decide)

end

/-! ## One channel of a state: its accumulator and its published rate -/

/-- Channel c of t is channel c of s. -/
def SameChannel (c : Chan) (s t : State) : Prop := t.acc.get c = s.acc.get c ∧ RateKept c s t

theorem SameChannel.trans {c : Chan} {s t u : State} (hst : SameChannel c s t) (htu : SameChannel c t u) :
    SameChannel c s u := by
  cases c
  all_goals exact ⟨htu.1.trans hst.1, htu.2.trans hst.2⟩

theorem sameChannel_wph (c : Chan) (w : Byte) (s : State) : SameChannel c s { s with wph := w } := by
  cases c
  all_goals exact ⟨rfl, rfl⟩

theorem sameChannel_endTick (c : Chan) (s : State) : SameChannel c s (endTick s) := by
  cases c
  all_goals exact ⟨rfl, rfl⟩

theorem sameChannel_countEdge (c : Chan) (s : State) : SameChannel (otherChan c) s (countEdge c s) := by
  cases c
  all_goals exact ⟨rfl, rfl⟩

theorem sameChannel_drainIf (p : Nat) (c : Chan) (s : State) : SameChannel (otherChan c) s (drainIf p c s) := by
  unfold drainIf
  split
  all_goals
    cases c
    all_goals exact ⟨rfl, rfl⟩

/-- The end of a base tick: the drain of the other channel, and the draws move on. -/
theorem sameChannel_endTick_drainIf (p : Nat) (c : Chan) (s : State) :
    SameChannel c s (endTick (drainIf p (otherChan c) s)) := by
  have hother := sameChannel_drainIf p (otherChan c) s
  rw [otherChan_otherChan] at hother
  exact hother.trans (sameChannel_endTick c _)

/-! ## A channel at the phase a base tick reaches (R202) -/

section
variable {p : Nat} {c : Chan} {s s' t : State}

theorem drainedAt_of_sameChannel (h : SameChannel c (drainIf p c s) t) : DrainedAt p c s t := by
  obtain ⟨hacc, hrate⟩ := h
  constructor
  · intro hp
    rw [drainIf, if_pos hp] at hacc hrate
    rw [drain] at hrate
    have hpublished := published_of_rateKept hrate
    exact ⟨by rw [hacc, drain_acc, Pair.get_set_same], (published_congr rfl rfl).1 hpublished⟩
  · intro hp
    rw [drainIf, if_neg hp] at hacc hrate
    exact ⟨hacc, hrate⟩

/-- What a tick does to a channel depends on the channel, the board and the draws only. -/
theorem drainedAt_congr (h : SameChannel c s s') (hboard : s'.board = s.board) (hdraws : s'.draws = s.draws)
    (hs' : DrainedAt p c s' t) : DrainedAt p c s t := by
  obtain ⟨hdrained, hkept⟩ := hs'
  rw [hboard] at hdrained hkept
  refine ⟨fun hp => ?_, fun hp => h.trans (hkept hp)⟩
  obtain ⟨hacc, hpublished⟩ := hdrained hp
  exact ⟨hacc, (published_congr hboard hdraws).1 (h.1 ▸ hpublished)⟩

/-- A channel drained empty publishes 0 (R208). -/
theorem rateOf_of_drainedAt_empty (h : DrainedAt p c s t) (hp : p = drainPhase s.board.cfg c)
    (hempty : s.acc.get c = 0) : rateOf c t = 0 := by
  obtain ⟨-, hpublished⟩ := h.1 hp
  rw [hempty] at hpublished
  exact rateOf_of_published_zero hpublished

end

/-! ## EDGE -/

/-- Settles O4: the addition of 16-bit words is the one modulo 2^16. -/
theorem edgeCountsOneOnItsChannel : Obligations.EdgeCountsOneOnItsChannel := by
  intro c s
  have hcount : (countEdge c s).acc.get c = s.acc.get c + 1 := by rw [countEdge_acc, Pair.get_set_same]
  refine ⟨countEdge c s, exec_edge c s, ?_, (sameChannel_countEdge c s).1, rfl⟩
  rw [hcount, BitVec.toNat_add]
  rfl

/-! ## BTICK -/

/-- Channel 0 is drained before channel 1, and neither drain touches the other channel. -/
theorem drainedAt_baseTick (c : Chan) (s : State) : DrainedAt (nextPhase s) c s (baseTick s) := by
  have hphase := sameChannel_wph c (BitVec.ofNat 8 (nextPhase s)) s
  cases c
  case ch0 =>
    exact drainedAt_congr hphase rfl rfl (drainedAt_of_sameChannel (sameChannel_endTick_drainIf _ .ch0 _))
  case ch1 =>
    have hdrain0 := sameChannel_drainIf (nextPhase s) .ch0 { s with wph := BitVec.ofNat 8 (nextPhase s) }
    exact drainedAt_congr (hphase.trans hdrain0) (drainIf_board _ _ _) (drainIf_draws _ _ _)
      (drainedAt_of_sameChannel (sameChannel_endTick .ch1 _))

theorem baseTick_wph_toNat (s : State) : (baseTick s).wph.toNat = nextPhase s := by
  rw [baseTick_wph, nextPhase_toNat]

theorem baseTick_frame (s : State) :
    baseTick s = { s with acc := (baseTick s).acc, rpm := (baseTick s).rpm, speed := (baseTick s).speed,
                          wph := (baseTick s).wph, draws := (baseTick s).draws } := by
  apply State.ext
  all_goals simp

/-- Settles O5: each channel meets its drain, and no drain touches another field. -/
theorem btickAdvancesPhaseAndDrains : Obligations.BtickAdvancesPhaseAndDrains := fun s =>
  ⟨baseTick s, exec_btick s, baseTick_wph_toNat s, fun c => drainedAt_baseTick c s, baseTick_frame s⟩

/-! ## BTICKE -/

theorem toNat_addEdge (b : Bool) (x : Half) : (addEdge b x).toNat = (x.toNat + if b then 1 else 0) % 2 ^ 16 := by
  cases b
  case false => exact (Nat.mod_eq_of_lt x.isLt).symm
  case true => exact BitVec.toNat_add x 1

theorem countsInOld_iff (o : Outcome) : countsInOld o = true ↔ o = .old ∨ o = .dup := by cases o <;> decide

theorem countsInNew_iff (o : Outcome) : countsInNew o = true ↔ o = .new ∨ o = .dup := by cases o <;> decide

/-- Under EXACT the outcome is OLD or NEW (R211). -/
theorem allowOutcome_exact (o : Outcome) : allowOutcome .exact o = .old ∨ allowOutcome .exact o = .new := by
  cases o <;> decide

/-- The drain of channel c with the edge in it: the residue is left, and the count with the edge of the old window is
published (R210). -/
def drainWithEdge (o : Outcome) (c : Chan) (s : State) : State :=
  publish c (addEdge (countsInOld o) (s.acc.get c)).toNat
    { s with wph := BitVec.ofNat 8 (nextPhase s), acc := s.acc.set c (addEdge (countsInNew o) 0) }

theorem sameChannel_drainWithEdge (o : Outcome) (c : Chan) (s : State) :
    SameChannel (otherChan c) s (drainWithEdge o c s) := by
  cases c
  all_goals exact ⟨rfl, rfl⟩

section
variable {c : Chan} {s : State}

theorem baseTickEdge_of_drained (o : Outcome) (h : nextPhase s = drainPhase s.board.cfg c) :
    baseTickEdge o c s = endTick (drainIf (nextPhase s) (otherChan c) (drainWithEdge o c s)) := if_pos h

theorem baseTickEdge_of_not_drained (o : Outcome) (h : nextPhase s ≠ drainPhase s.board.cfg c) :
    baseTickEdge o c s = baseTick (countEdge c s) := if_neg h

theorem sameChannel_baseTickEdge (o : Outcome) (h : nextPhase s = drainPhase s.board.cfg c) :
    SameChannel c (drainWithEdge o c s) (baseTickEdge o c s) := by
  rw [baseTickEdge_of_drained o h]
  exact sameChannel_endTick_drainIf _ _ _

theorem baseTickEdge_residue (o : Outcome) (h : nextPhase s = drainPhase s.board.cfg c) :
    (baseTickEdge o c s).acc.get c = if o = .new ∨ o = .dup then 1 else 0 := by
  rw [(sameChannel_baseTickEdge o h).1, drainWithEdge, publish_acc, Pair.get_set_same]
  simp only [addEdge, countsInNew_iff]
  rfl

theorem published_baseTickEdge (o : Outcome) (h : nextPhase s = drainPhase s.board.cfg c) :
    Published c (((s.acc.get c).toNat + if o = .old ∨ o = .dup then 1 else 0) % 2 ^ 16) s (baseTickEdge o c s) := by
  have hpublished := published_of_rateKept (sameChannel_baseTickEdge o h).2
  simp only [toNat_addEdge, countsInOld_iff] at hpublished
  exact (published_congr rfl rfl).1 hpublished

end

/-- Whether or not the tick drains channel c, the edge leaves the other channel to the tick. -/
theorem drainedAt_baseTickEdge_otherChan (o : Outcome) (c : Chan) (s : State) :
    DrainedAt (nextPhase s) (otherChan c) s (baseTickEdge o c s) := by
  by_cases h : nextPhase s = drainPhase s.board.cfg c
  · rw [baseTickEdge_of_drained o h]
    exact drainedAt_congr (sameChannel_drainWithEdge o c s) (publish_board _ _ _) (publish_draws _ _ _)
      (drainedAt_of_sameChannel (sameChannel_endTick _ _))
  · rw [baseTickEdge_of_not_drained o h]
    exact drainedAt_congr (sameChannel_countEdge c s) rfl rfl (drainedAt_baseTick (otherChan c) (countEdge c s))

theorem baseTickEdge_wph_toNat (o : Outcome) (c : Chan) (s : State) : (baseTickEdge o c s).wph.toNat = nextPhase s := by
  rw [baseTickEdge_wph, nextPhase_toNat]

theorem baseTickEdge_frame (o : Outcome) (c : Chan) (s : State) :
    baseTickEdge o c s =
      { s with acc := (baseTickEdge o c s).acc, rpm := (baseTickEdge o c s).rpm, speed := (baseTickEdge o c s).speed,
               wph := (baseTickEdge o c s).wph, draws := (baseTickEdge o c s).draws } := by
  apply State.ext
  all_goals simp

/-- Settles O8: off a drain the tick follows the edge; at a drain the drawn outcome says which counts hold the edge. -/
theorem btickeCountsEdgeByOutcome : Obligations.BtickeCountsEdgeByOutcome := by
  intro c s
  refine ⟨baseTickEdge (drawnOutcome s) c s, drawnOutcome s, exec_bticke c s, fun hexact => ?_, fun htolerant => ?_,
    fun hoff => congrArg some (baseTickEdge_of_not_drained _ hoff).symm, fun hdrain => ?_⟩
  · rw [drawnOutcome, hexact]
    exact allowOutcome_exact _
  · rw [drawnOutcome, htolerant]
    rfl
  · exact ⟨baseTickEdge_wph_toNat _ c s, baseTickEdge_residue _ hdrain, published_baseTickEdge _ hdrain,
      drainedAt_baseTickEdge_otherChan _ c s, baseTickEdge_frame _ c s⟩

/-! ## Empty windows (R208) -/

/-- The outcomes NEW and LOST leave the edge out of the drained window. -/
theorem rateOf_baseTickEdge_empty {c : Chan} {s : State} {o : Outcome} (h : nextPhase s = drainPhase s.board.cfg c)
    (hempty : s.acc.get c = 0) (ho : o = .new ∨ o = .lost) : rateOf c (baseTickEdge o c s) = 0 := by
  have hpublished := published_baseTickEdge o h
  rw [hempty] at hpublished
  apply rateOf_of_published_zero (s := s)
  rcases ho with rfl | rfl
  all_goals exact hpublished

/-- Settles O6: a window drained empty publishes 0, and neither base tick records a fault. -/
theorem emptyWindowPublishesZero : Obligations.EmptyWindowPublishesZero :=
  ⟨fun s => ⟨baseTick s, exec_btick s, baseTick_faults s, fun c => rateOf_of_drainedAt_empty (drainedAt_baseTick c s)⟩,
    fun c s => ⟨baseTickEdge (drawnOutcome s) c s, exec_bticke c s, rfl, baseTickEdge_faults _ c s,
      rateOf_of_drainedAt_empty (drainedAt_baseTickEdge_otherChan _ c s),
      fun hdrain hempty _ => rateOf_baseTickEdge_empty hdrain hempty⟩⟩

end Sys2Proof.Proofs.Pulse
end

section
/-! PROOFS. 41_adc_sampler.md R250, R252, R254, R256, R259: what ADCDONE publishes, and the temperature lookup by the
breakpoints around the sample. -/

namespace Sys2Proof.Proofs.Adc

open Sys2Proof Sys2Proof.Machine Sys2Proof.Slice0

/-! ## The breakpoints (check c1) -/

theorem getD_lt_of_neighbours {l : List Nat} (h : Neighbours (fun a b => a > b) l) {i j : Nat} (hij : i < j) :
    j < l.length → l.getD j 0 < l.getD i 0 := by
  induction j, hij using Nat.le_induction with
  | base => exact h i
  | succ j _ ih => exact fun hj => (h j hj).trans (ih (by omega))

section
variable {b : Board}

theorem two_le_length_tempTable (b : Board) : 2 ≤ b.cfg.tempTable.length :=
  ((Scope.passes_c1_iff b.cfg).1 (board_passes b .c1)).1

theorem breakpoint_lt {i j : Nat} (hij : i < j) (hj : j < b.cfg.tempTable.length) :
    b.cfg.tempTable.getD j 0 < b.cfg.tempTable.getD i 0 := by
  obtain ⟨-, hdescending, -⟩ := (Scope.passes_c1_iff b.cfg).1 (board_passes b .c1)
  exact getD_lt_of_neighbours hdescending hij hj

theorem breakpoint_le {i j : Nat} (hij : i ≤ j) (hj : j < b.cfg.tempTable.length) :
    b.cfg.tempTable.getD j 0 ≤ b.cfg.tempTable.getD i 0 := by
  obtain rfl | hlt := hij.eq_or_lt
  · exact le_rfl
  · exact (breakpoint_lt hlt hj).le

end

/-! ## Buckets -/

/-- The sample is in bucket i: at or above breakpoint i and below breakpoint i - 1 (R252). -/
structure InBucket (c : Cfg) (i raw : Nat) : Prop where
  pos : 1 ≤ i
  lt_length : i < c.tempTable.length
  lo_le : c.tempTable.getD i 0 ≤ raw
  lt_hi : raw < c.tempTable.getD (i - 1) 0

/-- The degrees of a sample in bucket i: those of breakpoint i - 1, and the share of a step by which the sample lies
below that breakpoint, divided once (R252, R254). -/
def bucketTemp (c : Cfg) (i raw : Nat) : Nat :=
  let hi := c.tempTable.getD (i - 1) 0
  let lo := c.tempTable.getD i 0
  c.tempBase + c.tempStep * ((i - 1) * (hi - lo) + (hi - raw)) / (hi - lo)

/-- The index weighted over a span is the lower index and the distance to the upper end. -/
theorem weightedIndex_eq {i lo hi raw : Nat} (hpos : 1 ≤ i) (hlo : lo ≤ raw) (hhi : raw ≤ hi) :
    (i - 1) * (raw - lo) + i * (hi - raw) = (i - 1) * (hi - lo) + (hi - raw) := by
  obtain ⟨k, rfl⟩ := Nat.exists_eq_add_of_le' hpos
  obtain ⟨x, rfl⟩ := Nat.exists_eq_add_of_le hlo
  obtain ⟨y, rfl⟩ := Nat.exists_eq_add_of_le hhi
  have hspan : lo + x + y - lo = x + y := by omega
  simp only [Nat.add_sub_cancel, Nat.add_sub_cancel_left, hspan]
  ring

section
variable {b : Board} {i j raw raw' : Nat}

/-- Between the ends of the table, the first breakpoint at or below the sample is the lower end of its bucket. -/
theorem exists_inBucket (hlo : b.cfg.tempTable.getD (b.cfg.tempTable.length - 1) 0 ≤ raw)
    (hhi : raw < b.cfg.tempTable.getD 0 0) : ∃ i, InBucket b.cfg i raw := by
  have hexists : ∃ i, b.cfg.tempTable.getD i 0 ≤ raw := ⟨_, hlo⟩
  have hle := Nat.find_min' hexists hlo
  have hlength := two_le_length_tempTable b
  have hpos : 1 ≤ Nat.find hexists := (Nat.find_pos hexists).2 (not_le.2 hhi)
  exact ⟨Nat.find hexists, hpos, by omega, Nat.find_spec hexists,
    not_le.1 (Nat.find_min hexists (by omega : Nat.find hexists - 1 < Nat.find hexists))⟩

/-- A higher sample is in a bucket of no higher index. -/
theorem InBucket.index_le (h : InBucket b.cfg i raw) (h' : InBucket b.cfg j raw') (hle : raw ≤ raw') : j ≤ i := by
  by_contra hlt
  have hbreakpoints := breakpoint_le (b := b) (by omega : i ≤ j - 1) (by have := h'.lt_length; omega)
  have hlo := h.lo_le
  have hhi := h'.lt_hi
  omega

theorem InBucket.span_pos {c : Cfg} (h : InBucket c i raw) : 0 < c.tempTable.getD (i - 1) 0 - c.tempTable.getD i 0 :=
  Nat.sub_pos_of_lt (h.lo_le.trans_lt h.lt_hi)

theorem InBucket.le_bucketTemp {c : Cfg} (h : InBucket c i raw) :
    c.tempBase + c.tempStep * (i - 1) ≤ bucketTemp c i raw := by
  refine Nat.add_le_add_left ((Nat.le_div_iff_mul_le h.span_pos).2 ?_) _
  rw [Nat.mul_assoc]
  exact Nat.mul_le_mul_left _ (Nat.le_add_right _ _)

theorem bucketTemp_le_of_le (c : Cfg) (i : Nat) (h : raw ≤ raw') : bucketTemp c i raw' ≤ bucketTemp c i raw :=
  Nat.add_le_add_left (Nat.div_le_div_right (Nat.mul_le_mul_left _
    (Nat.add_le_add_left (Nat.sub_le_sub_left h _) _))) _

/-- At the lower breakpoint of a bucket the share is the whole step. -/
theorem InBucket.bucketTemp_breakpoint {c : Cfg} (h : InBucket c i raw) :
    bucketTemp c i (c.tempTable.getD i 0) = c.tempBase + c.tempStep * i := by
  simp only [bucketTemp]
  rw [← Nat.succ_mul, Nat.succ_eq_add_one, Nat.sub_add_cancel h.pos, ← Nat.mul_assoc, Nat.mul_div_cancel _ h.span_pos]

theorem InBucket.bucketTemp_le {c : Cfg} (h : InBucket c i raw) :
    bucketTemp c i raw ≤ c.tempBase + c.tempStep * i :=
  (bucketTemp_le_of_le c i h.lo_le).trans_eq h.bucketTemp_breakpoint

theorem inBucket_breakpoint (hpos : 1 ≤ i) (hi : i < b.cfg.tempTable.length) :
    InBucket b.cfg i (b.cfg.tempTable.getD i 0) :=
  ⟨hpos, hi, le_rfl, breakpoint_lt (by omega) hi⟩

/-! ## The lookup (R252, R254) -/

theorem tempLookup_cold (h : b.cfg.tempTable.getD 0 0 ≤ raw) : tempLookup b.cfg raw = b.cfg.tempCold.toNat := by
  have hlength := two_le_length_tempTable b
  have hindex := breakpointIndex_eq raw b.cfg.tempTable 0 (by omega) h (by simp)
  simp [tempLookup, hindex]

theorem tempLookup_hot (h : raw < b.cfg.tempTable.getD (b.cfg.tempTable.length - 1) 0) :
    tempLookup b.cfg raw = b.cfg.tempHot.toNat := by
  have hlength := two_le_length_tempTable b
  have hindex := breakpointIndex_none raw b.cfg.tempTable fun j hj =>
    h.trans_le (breakpoint_le (by omega) (by omega))
  have hpos : b.cfg.tempTable.length ≠ 0 := by omega
  simp [tempLookup, hindex, hpos]

theorem InBucket.breakpointIndex_eq (h : InBucket b.cfg i raw) : breakpointIndex raw b.cfg.tempTable = i :=
  Machine.breakpointIndex_eq raw _ i h.lt_length h.lo_le fun j hj =>
    h.lt_hi.trans_le (breakpoint_le (by omega) (by have := h.lt_length; omega))

theorem InBucket.tempLookup_eq (h : InBucket b.cfg i raw) :
    tempLookup b.cfg raw = b.cfg.tempBase +
      b.cfg.tempStep * ((i - 1) * (raw - b.cfg.tempTable.getD i 0) + i * (b.cfg.tempTable.getD (i - 1) 0 - raw)) /
        (b.cfg.tempTable.getD (i - 1) 0 - b.cfg.tempTable.getD i 0) := by
  have hne_zero : i ≠ 0 := Nat.one_le_iff_ne_zero.1 h.pos
  simp only [tempLookup, h.breakpointIndex_eq, if_neg hne_zero, if_neg h.lt_length.ne]

theorem InBucket.tempLookup_eq_bucketTemp (h : InBucket b.cfg i raw) : tempLookup b.cfg raw = bucketTemp b.cfg i raw := by
  rw [h.tempLookup_eq, weightedIndex_eq h.pos h.lo_le h.lt_hi.le]
  rfl

/-- A sample is beyond one of the ends of the table or in a bucket. -/
theorem tempLookup_cases (b : Board) (raw : Nat) : tempLookup b.cfg raw = b.cfg.tempCold.toNat ∨
    tempLookup b.cfg raw = b.cfg.tempHot.toNat ∨ ∃ i, InBucket b.cfg i raw := by
  by_cases hcold : b.cfg.tempTable.getD 0 0 ≤ raw
  · exact .inl (tempLookup_cold hcold)
  by_cases hhot : raw < b.cfg.tempTable.getD (b.cfg.tempTable.length - 1) 0
  · exact .inr (.inl (tempLookup_hot hhot))
  exact .inr (.inr (exists_inBucket (not_lt.1 hhot) (not_le.1 hcold)))

/-- In a bucket the degrees are below the hot sentinel (check c2). -/
theorem InBucket.tempLookup_lt_tempHot (h : InBucket b.cfg i raw) : tempLookup b.cfg raw < b.cfg.tempHot.toNat := by
  have hlt := h.lt_length
  calc tempLookup b.cfg raw = bucketTemp b.cfg i raw := h.tempLookup_eq_bucketTemp
    _ ≤ b.cfg.tempBase + b.cfg.tempStep * i := h.bucketTemp_le
    _ ≤ b.cfg.tempBase + b.cfg.tempStep * (b.cfg.tempTable.length - 1) :=
      Nat.add_le_add_left (Nat.mul_le_mul_left _ (by omega)) _
    _ < b.cfg.tempHot.toNat := (Scope.passes_c2_iff b.cfg).1 (board_passes b .c2)

/-- The published temperature fits its register. -/
theorem tempLookup_lt (b : Board) (raw : Nat) : tempLookup b.cfg raw < 2 ^ 8 := by
  obtain hcold | hhot | ⟨i, h⟩ := tempLookup_cases b raw
  · exact hcold ▸ b.cfg.tempCold.isLt
  · exact hhot ▸ b.cfg.tempHot.isLt
  · exact h.tempLookup_lt_tempHot.trans b.cfg.tempHot.isLt

/-- In the same bucket the share falls; from a bucket to one of lower index the breakpoint's degrees lie between. -/
theorem InBucket.tempLookup_le_of_le (h : InBucket b.cfg i raw) (h' : InBucket b.cfg j raw') (hle : raw ≤ raw') :
    tempLookup b.cfg raw' ≤ tempLookup b.cfg raw := by
  rw [h.tempLookup_eq_bucketTemp, h'.tempLookup_eq_bucketTemp]
  obtain rfl | hlt := (h.index_le h' hle).eq_or_lt
  · exact bucketTemp_le_of_le _ _ hle
  · calc bucketTemp b.cfg j raw' ≤ b.cfg.tempBase + b.cfg.tempStep * j := h'.bucketTemp_le
      _ ≤ b.cfg.tempBase + b.cfg.tempStep * (i - 1) := Nat.add_le_add_left (Nat.mul_le_mul_left _ (by omega)) _
      _ ≤ bucketTemp b.cfg i raw := h.le_bucketTemp

end

/-- Settles O13: the search finds the bucket, for the breakpoints descend. -/
theorem tempLookupFollowsBreakpoints : Obligations.TempLookupFollowsBreakpoints := fun _ _ =>
  ⟨tempLookup_cold, tempLookup_hot, fun _ hpos hi hlo hhi => (InBucket.mk hpos hi hlo hhi).tempLookup_eq⟩

/-- Settles O15: a breakpoint is the lower end of its bucket, and the degrees fall within a bucket and from one to the
next. -/
theorem tempLookupExactAndNonIncreasing : Obligations.TempLookupExactAndNonIncreasing := by
  intro b
  refine ⟨fun k hpos hk => ?_, fun _ => tempLookup_cold, fun _ => tempLookup_hot, fun raw raw' hlo hle hhi => ?_⟩
  · have h := inBucket_breakpoint hpos hk
    exact h.tempLookup_eq_bucketTemp.trans h.bucketTemp_breakpoint
  · obtain ⟨i, h⟩ := exists_inBucket hlo (hle.trans_lt hhi)
    obtain ⟨j, h'⟩ := exists_inBucket (hlo.trans hle) hhi
    exact h.tempLookup_le_of_le h' hle

/-! ## ADCDONE (R250, R256) -/

section
variable {s : State} (x : Byte)

theorem publishSample_of_temperature (h : s.adcSel = .temperature) : publishSample x s =
    { s with temp := BitVec.ofNat 8 (tempLookup s.board.cfg x.toNat), adcSel := .fuel } := by
  rw [publishSample, h]

theorem publishSample_of_fuel (h : s.adcSel = .fuel) :
    publishSample x s = { s with fuel := x, adcSel := .temperature } := by
  rw [publishSample, h]

end

/-- Settles O12: the looked-up temperature fits its register, and a sample is the operand's high byte. -/
theorem adcdonePublishesSelectedChannel : Obligations.AdcdonePublishesSelectedChannel := by
  intro d s
  refine ⟨publishSample (adcSample d) s, exec_adcdone d s, fun htemp => ?_, fun hfuel => ?_⟩
  · rw [publishSample_of_temperature _ htemp, ← adcSample_toNat]
    exact ⟨(BitVec.toNat_ofNat _ _).trans (Nat.mod_eq_of_lt (tempLookup_lt s.board _)), rfl⟩
  · rw [publishSample_of_fuel _ hfuel]
    exact ⟨adcSample_toNat d, rfl⟩

end Sys2Proof.Proofs.Adc
end

section
/-! PROOFS. 42_waveform.md: what an operation does to a square-wave output is a function of that output alone (R306), so
a run of WTICKs iterates the tick of one output (R301), and the laws of the wave (R303 to R305) are facts about that
iteration. -/

namespace Sys2Proof.Proofs.Wave

open Sys2Proof Sys2Proof.Machine Sys2Proof.Slice0

/-! ## One output -/

/-- One output of the generator: its half-period, count and level (10_state.md R61, R63, R64). -/
structure SquareWave where
  hp : Half
  wcnt : Half
  fout : Bool

/-- Output c of a state. -/
def output (c : Chan) (s : State) : SquareWave := ⟨s.hp.get c, s.wcnt.get c, s.fout.get c⟩

theorem fields_of_output {c : Chan} {s : State} {x : SquareWave} (h : output c s = x) :
    s.hp.get c = x.hp ∧ s.wcnt.get c = x.wcnt ∧ s.fout.get c = x.fout := by
  subst h
  exact ⟨rfl, rfl, rfl⟩

/-- One tick of an output on the disabled sentinel d (R301). -/
def SquareWave.tick (d : Half) (x : SquareWave) : SquareWave :=
  { x with wcnt := (swgNext d x.hp x.wcnt x.fout).1, fout := (swgNext d x.hp x.wcnt x.fout).2 }

/-- Output c after an operation: WTICK steps it, RESET disables it low, and WR, ACT.RPM and ACT.SPD write the half-period
of their own channel (R300, 46_host_bus.md R502, R506, 43_interpolation.md R360, R362). -/
def SquareWave.after (cfg : Cfg) (c : Chan) (x : SquareWave) : Instr → SquareWave
  | .wtick => x.tick cfg.hpDisabled
  | .reset => ⟨cfg.hpDisabled, cfg.hpDisabled, false⟩
  | .wr a v => { x with hp := if a = hpAddr c ∧ v ≠ 0 then v else x.hp }
  | .actRpm v => { x with hp := if c = .ch0 then rpmSetpoint cfg v else x.hp }
  | .actSpd v => { x with hp := if c = .ch1 then spdSetpoint cfg v else x.hp }
  | _ => x

/-! ## What an operation does to an output -/

theorem hpAddr_inj {c d : Chan} : hpAddr c = hpAddr d ↔ c = d := by
  cases c
  all_goals
    cases d
    all_goals decide

section
variable {c : Chan} {s t : State} {i : Instr} {ops : List Instr} {a : Byte} {v : Half}

theorem exec_rd_frame (h : exec (.rd a) s = .next t) : t = { s with response := t.response, faults := t.faults } := by
  rw [exec_rd] at h
  obtain rfl := Host.Outcome.next.inj h
  split
  all_goals rfl

/-- A legal write of a half-period (46_host_bus.md R502). -/
theorem exec_wr_hpAddr (c : Chan) (hv : v ≠ 0) (s : State) :
    exec (.wr (hpAddr c) v) s = .next { s with hp := s.hp.set c v } := by
  have hwrite : busWrite (hpAddr c) v s = .ok { s with hp := s.hp.set c v } := by
    cases c
    all_goals exact if_neg hv
  rw [exec_wr, hwrite]

/-- Any other write sets a compare value or records a fault (46_host_bus.md R502, R504). -/
theorem exec_wr_of_not_hp (h : exec (.wr a v) s = .next t) (hother : ∀ d, a = hpAddr d → v = 0) :
    t.board = s.board ∧ ∀ c, output c t = output c s := by
  rw [exec_wr] at h
  obtain rfl := Host.Outcome.next.inj h
  cases hr : HostReg.ofAddr a with
  | none =>
    rw [busWrite, hr]
    exact ⟨rfl, fun _ => rfl⟩
  | some r =>
    obtain rfl := HostReg.addr_of_ofAddr hr
    rw [Memory.busWrite_addr]
    cases r
    case hp0 =>
      obtain rfl := hother .ch0 rfl
      exact ⟨rfl, fun _ => rfl⟩
    case hp1 =>
      obtain rfl := hother .ch1 rfl
      exact ⟨rfl, fun _ => rfl⟩
    all_goals exact ⟨rfl, fun _ => rfl⟩

theorem exec_wr_output (h : exec (.wr a v) s = .next t) :
    t.board = s.board ∧ ∀ c, output c t = (output c s).after s.board.cfg c (.wr a v) := by
  by_cases hhp : ∃ d, a = hpAddr d ∧ v ≠ 0
  · obtain ⟨d, rfl, hv⟩ := hhp
    rw [exec_wr_hpAddr d hv] at h
    obtain rfl := Host.Outcome.next.inj h
    refine ⟨rfl, fun c => ?_⟩
    simp only [output, SquareWave.after, Pair.get_set, hpAddr_inj, and_iff_left hv, eq_comm (a := c)]
  · have hother : ∀ d, a = hpAddr d → v = 0 := fun d ha => by_contra fun hv => hhp ⟨d, ha, hv⟩
    obtain ⟨hboard, houtput⟩ := exec_wr_of_not_hp h hother
    refine ⟨hboard, fun c => ?_⟩
    simp only [houtput, SquareWave.after, if_neg (not_exists.1 hhp c)]

theorem exec_board (h : exec i s = .next t) : t.board = s.board := by
  cases i
  case rd => rw [exec_rd_frame h]
  case wr => exact (exec_wr_output h).1
  all_goals
    obtain rfl := Host.Outcome.next.inj h
    simp

/-- An output after an operation is a function of the output before it. -/
theorem exec_output (c : Chan) (h : exec i s = .next t) : output c t = (output c s).after s.board.cfg c i := by
  cases i
  case rd =>
    rw [exec_rd_frame h]
    rfl
  case wr => exact (exec_wr_output h).2 c
  case wtick | actRpm | actSpd | reset =>
    obtain rfl := Host.Outcome.next.inj h
    cases c
    all_goals rfl
  all_goals
    obtain rfl := Host.Outcome.next.inj h
    simp [output, SquareWave.after]

theorem exists_perform (ops : List Instr) (s : State) : ∃ t, perform ops s = some t := by
  induction ops generalizing s with
  | nil => exact ⟨s, rfl⟩
  | cons i ops ih =>
    obtain ⟨u, hu⟩ := exec_next i s
    rw [perform_cons ops hu]
    exact ih u

theorem perform_output (c : Chan) (h : perform ops s = some t) :
    output c t = ops.foldl (SquareWave.after s.board.cfg c) (output c s) := by
  induction ops generalizing s with
  | nil => rw [← Option.some.inj h, List.foldl_nil]
  | cons i ops ih =>
    obtain ⟨u, hu, hrest⟩ := perform_step h
    rw [ih hrest, exec_board hu, exec_output c hu, List.foldl_cons]

end

/-- Settles O22: the output is folded over the operations, and nothing else of the state enters. -/
theorem outputsNeverInterfere : Obligations.OutputsNeverInterfere := by
  intro c ops s s' t t' hboard hhp hwcnt hfout ht ht'
  have hbefore : output c s = output c s' := by simp only [output, hhp, hwcnt, hfout]
  have hafter : output c t = output c t' := by rw [perform_output c ht, perform_output c ht', hboard, hbefore]
  exact fields_of_output hafter

/-! ## One tick of an output (R301) -/

theorem toNat_sub_ofNat {w : Half} {n : Nat} (h : n ≤ w.toNat) : (w - BitVec.ofNat 16 n).toNat = w.toNat - n := by
  have hn : (BitVec.ofNat 16 n).toNat = n := (BitVec.toNat_ofNat _ _).trans (Nat.mod_eq_of_lt (h.trans_lt w.isLt))
  rw [BitVec.toNat_sub_of_le (BitVec.le_def.2 (hn.trans_le h)), hn]

section
variable {d : Half} {x : SquareWave}

theorem tick_reload (h : x.wcnt = d) : x.tick d = { x with wcnt := x.hp } := by
  simp only [SquareWave.tick, h, swgNext_reload]

theorem tick_stop (hd : 2 ≤ d.toNat) (h : x.wcnt = 1) (hhp : x.hp = d) : x.tick d = { x with wcnt := d } := by
  simp only [SquareWave.tick, h, hhp, swgNext_stop hd]

theorem tick_toggle (hd : 2 ≤ d.toNat) (h : x.wcnt = 1) (hhp : x.hp ≠ d) :
    x.tick d = { x with wcnt := x.hp, fout := !x.fout } := by
  simp only [SquareWave.tick, h, swgNext_toggle hd hhp]

theorem tick_count (h : 2 ≤ x.wcnt.toNat) (hne : x.wcnt ≠ d) : x.tick d = { x with wcnt := x.wcnt - 1 } := by
  simp only [SquareWave.tick, (swgNext_count h hne _).1]

end

/-- Settles O17: WTICK ticks each output and writes no other field. -/
theorem wtickStepsBothOutputs : Obligations.WtickStepsBothOutputs := by
  intro s
  obtain ⟨hd, -⟩ := board_hpDisabled s.board
  refine ⟨_, exec_wtick s, rfl, fun c => ?_⟩
  have htick : output c (swgStep .ch1 (swgStep .ch0 s)) = (output c s).tick s.board.cfg.hpDisabled :=
    exec_output c (exec_wtick s)
  refine ⟨fun hreload => (fields_of_output (htick.trans (tick_reload hreload))).2,
    fun hone hdisabled => (fields_of_output (htick.trans (tick_stop hd hone hdisabled))).2,
    fun hone henabled => (fields_of_output (htick.trans (tick_toggle hd hone henabled))).2, fun hcount hne => ?_⟩
  obtain ⟨-, hwcnt, hfout⟩ := fields_of_output (htick.trans (tick_count hcount hne))
  exact ⟨(congrArg BitVec.toNat hwcnt).trans (toNat_sub_ofNat (n := 1) (one_le_two.trans hcount)), hfout⟩

/-! ## A run of ticks -/

theorem foldl_after_wticks (cfg : Cfg) (c : Chan) (n : Nat) (x : SquareWave) :
    (List.replicate n .wtick).foldl (SquareWave.after cfg c) x = (SquareWave.tick cfg.hpDisabled)^[n] x := by
  induction n generalizing x with
  | zero => rfl
  | succ n ih => exact ih _

theorem perform_wticks (c : Chan) (n : Nat) (s : State) : ∃ t, perform (List.replicate n .wtick) s = some t ∧
    output c t = (SquareWave.tick s.board.cfg.hpDisabled)^[n] (output c s) := by
  obtain ⟨t, ht⟩ := exists_perform (List.replicate n .wtick) s
  exact ⟨t, ht, by rw [perform_output c ht, foldl_after_wticks]⟩

section
variable {d : Half} {x : SquareWave} {n : Nat}

/-- A count that has not run out is down by one for each tick. -/
theorem ticks_count (hn : n < x.wcnt.toNat) (hd : x.wcnt.toNat < d.toNat) :
    (SquareWave.tick d)^[n] x = { x with wcnt := x.wcnt - BitVec.ofNat 16 n } := by
  induction n with
  | zero => simp
  | succ n ih =>
    have hcount : (x.wcnt - BitVec.ofNat 16 n).toNat = x.wcnt.toNat - n := toNat_sub_ofNat (by omega)
    have hne : x.wcnt - BitVec.ofNat 16 n ≠ d := fun h => by rw [h] at hcount; omega
    have htwo : 2 ≤ (x.wcnt - BitVec.ofNat 16 n).toNat := by omega
    rw [Function.iterate_succ_apply', ih (by omega), tick_count htwo hne, BitVec.sub_sub, BitVec.ofNat_add]
    rfl

/-! ## A wave with an enabled half-period (R303) -/

/-- The output has just been reloaded with an enabled half-period. -/
structure Reloaded (d : Half) (x : SquareWave) : Prop where
  pos : 1 ≤ x.hp.toNat
  lt : x.hp.toNat < d.toNat
  wcnt_eq : x.wcnt = x.hp

theorem Reloaded.ticks_lt (h : Reloaded d x) (hn : n < x.hp.toNat) :
    (SquareWave.tick d)^[n] x = { x with wcnt := x.hp - BitVec.ofNat 16 n } := by
  rw [ticks_count (h.wcnt_eq.symm ▸ hn) (h.wcnt_eq.symm ▸ h.lt), h.wcnt_eq]

/-- A half-period ends with a toggle and a reload. -/
theorem Reloaded.ticks_hp (h : Reloaded d x) : (SquareWave.tick d)^[x.hp.toNat] x = { x with fout := !x.fout } := by
  obtain ⟨k, hk⟩ := Nat.exists_eq_add_of_le' h.pos
  have hlast : x.hp - BitVec.ofNat 16 k = 1 := by
    apply BitVec.eq_of_toNat_eq
    rw [toNat_sub_ofNat (by omega), hk, Nat.add_sub_cancel_left]
    rfl
  have henabled : x.hp ≠ d := fun heq => h.lt.ne (congrArg BitVec.toNat heq)
  have hd : 2 ≤ d.toNat := Nat.succ_le_of_lt (h.pos.trans_lt h.lt)
  rw [hk, Function.iterate_succ_apply', h.ticks_lt (by omega),
    tick_toggle (x := { x with wcnt := x.hp - BitVec.ofNat 16 k }) hd hlast henabled, ← h.wcnt_eq]

theorem not_xor_decide_mod_two (b : Bool) (q : Nat) :
    (!b ^^ decide (q % 2 = 1)) = (b ^^ decide ((q + 1) % 2 = 1)) := by
  obtain h | h := Nat.mod_two_eq_zero_or_one q
  all_goals simp [Nat.add_mod, h]

theorem Reloaded.ticks_hp_mul (h : Reloaded d x) (q : Nat) :
    (SquareWave.tick d)^[x.hp.toNat * q] x = { x with fout := x.fout ^^ decide (q % 2 = 1) } := by
  induction q generalizing x with
  | zero => simp
  | succ q ih =>
    have hreloaded : Reloaded d { x with fout := !x.fout } := ⟨h.pos, h.lt, h.wcnt_eq⟩
    rw [Nat.mul_succ, Function.iterate_add_apply, h.ticks_hp, ih hreloaded, not_xor_decide_mod_two]

theorem Reloaded.ticks (h : Reloaded d x) (n : Nat) :
    (SquareWave.tick d)^[n] x = { x with wcnt := x.hp - BitVec.ofNat 16 (n % x.hp.toNat),
                                         fout := x.fout ^^ decide (n / x.hp.toNat % 2 = 1) } := by
  have hreloaded : Reloaded d { x with fout := x.fout ^^ decide (n / x.hp.toNat % 2 = 1) } := ⟨h.pos, h.lt, h.wcnt_eq⟩
  calc (SquareWave.tick d)^[n] x
      = (SquareWave.tick d)^[n % x.hp.toNat] ((SquareWave.tick d)^[x.hp.toNat * (n / x.hp.toNat)] x) := by
        rw [← Function.iterate_add_apply, Nat.mod_add_div]
    _ = _ := by rw [h.ticks_hp_mul, hreloaded.ticks_lt (Nat.mod_lt _ h.pos)]

/-! ## A disabled output (R304) -/

/-- A tick of a disabled output keeps the level and brings the count closer to rest at the sentinel. -/
theorem tick_disabled (hd : 2 ≤ d.toNat) (hhp : x.hp = d) (hpos : 1 ≤ x.wcnt.toNat) :
    ∃ w : Half, x.tick d = { x with wcnt := w } ∧ 1 ≤ w.toNat ∧
      (x.wcnt.toNat ≤ n + 1 ∨ x.wcnt = d → w.toNat ≤ n ∨ w = d) := by
  by_cases hrest : x.wcnt = d
  · exact ⟨d, by rw [tick_reload hrest, hhp], by omega, fun _ => .inr rfl⟩
  by_cases hone : x.wcnt = 1
  · exact ⟨d, tick_stop hd hone hhp, by omega, fun _ => .inr rfl⟩
  · have htwo : 2 ≤ x.wcnt.toNat := by bv_omega
    have hnext : (x.wcnt - 1).toNat = x.wcnt.toNat - 1 := toNat_sub_ofNat (n := 1) hpos
    exact ⟨x.wcnt - 1, tick_count htwo hrest, by omega, fun h => .inl (by have := h.resolve_right hrest; omega)⟩

theorem ticks_disabled (hd : 2 ≤ d.toNat) (hhp : x.hp = d) (hpos : 1 ≤ x.wcnt.toNat) :
    ∃ w : Half, (SquareWave.tick d)^[n] x = { x with wcnt := w } ∧ (x.wcnt.toNat ≤ n ∨ x.wcnt = d → w = d) := by
  induction n generalizing x with
  | zero => exact ⟨x.wcnt, rfl, fun h => h.resolve_left (by omega)⟩
  | succ n ih =>
    obtain ⟨v, htick, hv, hcloser⟩ := tick_disabled (n := n) hd hhp hpos
    obtain ⟨w, hticks, hw⟩ := ih (x := { x with wcnt := v }) hhp hv
    exact ⟨w, by rw [Function.iterate_succ_apply, htick, hticks], fun h => hw (hcloser h)⟩

end

/-- Settles O18: whole half-periods toggle the level, and the rest of the ticks counts down. -/
theorem squareWaveFrequencyLaw : Obligations.SquareWaveFrequencyLaw := by
  intro c s n hpos hlt hreload
  have hreloaded : Reloaded s.board.cfg.hpDisabled (output c s) := ⟨hpos, hlt, hreload⟩
  obtain ⟨t, ht, houtput⟩ := perform_wticks c n s
  rw [hreloaded.ticks] at houtput
  obtain ⟨-, hwcnt, hfout⟩ := fields_of_output houtput
  exact ⟨t, ht, hfout, (congrArg BitVec.toNat hwcnt).trans (toNat_sub_ofNat (Nat.mod_lt _ hpos).le)⟩

/-- Settles O19: after the reload of the first tick the wave is that of a reloaded output. -/
theorem enabledOutputTogglesAfterReload : Obligations.EnabledOutputTogglesAfterReload := by
  intro c s n hpos hlt hrest hn
  have hreload := tick_reload (x := output c s) hrest
  have hreloaded : Reloaded s.board.cfg.hpDisabled { output c s with wcnt := s.hp.get c } := ⟨hpos, hlt, rfl⟩
  obtain ⟨r, hr, hfirst⟩ := perform_wticks c 1 s
  obtain ⟨t, ht, hbefore⟩ := perform_wticks c n s
  obtain ⟨u, hu, hafter⟩ := perform_wticks c ((s.hp.get c).toNat + 1) s
  rw [Function.iterate_one, hreload] at hfirst
  rw [Function.iterate_succ_apply, hreload] at hafter
  have hlevel : t.fout.get c = s.fout.get c := by
    cases n with
    | zero => exact congrArg SquareWave.fout hbefore
    | succ k =>
      rw [Function.iterate_succ_apply, hreload] at hbefore
      exact congrArg SquareWave.fout (hbefore.trans (hreloaded.ticks_lt hn))
  obtain ⟨-, hcount, hkept⟩ := fields_of_output hfirst
  obtain ⟨-, -, htoggled⟩ := fields_of_output (hafter.trans hreloaded.ticks_hp)
  exact ⟨r, t, u, hr, hcount, hkept, ht, hlevel, hu, htoggled⟩

/-- Settles O20: no tick of a disabled output toggles, and each brings the count closer to rest at the sentinel. -/
theorem disabledOutputHoldsItsLevel : Obligations.DisabledOutputHoldsItsLevel := by
  intro c s n hdisabled hpos
  obtain ⟨t, ht, houtput⟩ := perform_wticks c n s
  obtain ⟨w, hticks, hrest⟩ := ticks_disabled (x := output c s) (n := n) (board_hpDisabled s.board).1 hdisabled hpos
  obtain ⟨-, hwcnt, hfout⟩ := fields_of_output (houtput.trans hticks)
  exact ⟨t, ht, hfout, fun h => hwcnt.trans (hrest h)⟩

end Sys2Proof.Proofs.Wave
end

section
/-! PROOFS. 43_interpolation.md: the bucket interpolation as one weighted mean (R350, R351), its range, exactness and
monotonicity on the tables of a board (R352 to R356), and what the four ACT operations write (R360 to R368). -/

namespace Sys2Proof.Proofs.Interpolation

open Sys2Proof Sys2Proof.Machine Sys2Proof.Slice0

/-! ## The weighted mean of two entries -/

/-- The value at remainder r of a bucket of width w between the entries x and y, divided once (R350, R351). -/
def weightedMean (w x y r : Nat) : Nat := (y * r + x * (w - r)) / w

section
variable {w x y r r' m : Nat}

theorem weightedMean_swap (hr : r ≤ w) : weightedMean w x y r = weightedMean w y x (w - r) := by
  rw [weightedMean, weightedMean, Nat.sub_sub_self hr, Nat.add_comm]

theorem mul_eq_remainder_parts (m : Nat) (hr : r ≤ w) : m * w = m * r + m * (w - r) := by
  rw [← Nat.mul_add, Nat.add_sub_cancel' hr]

theorem le_weightedMean (hw : 1 ≤ w) (hr : r ≤ w) (hx : m ≤ x) (hy : m ≤ y) : m ≤ weightedMean w x y r := by
  rw [weightedMean, Nat.le_div_iff_mul_le hw, mul_eq_remainder_parts m hr]
  exact Nat.add_le_add (Nat.mul_le_mul_right r hy) (Nat.mul_le_mul_right _ hx)

theorem weightedMean_le (hr : r ≤ w) (hx : x ≤ m) (hy : y ≤ m) : weightedMean w x y r ≤ m := by
  refine Nat.div_le_of_le_mul ?_
  rw [Nat.mul_comm w m, mul_eq_remainder_parts m hr]
  exact Nat.add_le_add (Nat.mul_le_mul_right r hy) (Nat.mul_le_mul_right _ hx)

/-- Towards the lower entry the mean does not increase: a larger remainder moves weight from x to y. -/
theorem weightedMean_le_of_le (hxy : y ≤ x) (hrr : r ≤ r') (hr' : r' ≤ w) :
    weightedMean w x y r' ≤ weightedMean w x y r := by
  obtain ⟨d, rfl⟩ := Nat.exists_eq_add_of_le hrr
  have hrest : w - r = (w - (r + d)) + d := by omega
  refine Nat.div_le_div_right ?_
  calc y * (r + d) + x * (w - (r + d)) = y * r + x * (w - (r + d)) + y * d := by ring
    _ ≤ y * r + x * (w - (r + d)) + x * d := Nat.add_le_add_left (Nat.mul_le_mul_right d hxy) _
    _ = y * r + x * (w - r) := by rw [hrest]; ring

/-- With a step of at least the width, one part of the remainder already moves the mean by 1 (R356). -/
theorem weightedMean_strictly_between (hstep : x + w ≤ y) (hpos : 1 ≤ r) (hlt : r < w) :
    x < weightedMean w x y r ∧ weightedMean w x y r < y := by
  have hw : 0 < w := by omega
  constructor
  · rw [weightedMean, ← Nat.succ_le_iff, Nat.le_div_iff_mul_le hw]
    calc (x + 1) * w = x * w + w := Nat.succ_mul x w
      _ ≤ x * w + w * r := Nat.add_le_add_left (Nat.le_mul_of_pos_right w hpos) _
      _ = (x + w) * r + x * (w - r) := by rw [mul_eq_remainder_parts x hlt.le]; ring
      _ ≤ y * r + x * (w - r) := Nat.add_le_add_right (Nat.mul_le_mul_right r hstep) _
  · rw [weightedMean, Nat.div_lt_iff_lt_mul hw, mul_eq_remainder_parts y hlt.le]
    exact Nat.add_lt_add_left (Nat.mul_lt_mul_of_pos_right (by omega) (by omega)) _

/-- Entries at least a width apart, in either direction: the mean of a proper remainder lies strictly between them. -/
theorem weightedMean_strictly_inside (hstep : x + w ≤ y ∨ y + w ≤ x) (hpos : 1 ≤ r) (hlt : r < w) :
    min x y < weightedMean w x y r ∧ weightedMean w x y r < max x y := by
  rcases hstep with hup | hdown
  · rw [min_eq_left (by omega), max_eq_right (by omega)]
    exact weightedMean_strictly_between hup hpos hlt
  · rw [min_eq_right (by omega), max_eq_left (by omega), weightedMean_swap hlt.le]
    exact weightedMean_strictly_between hdown (by omega) (by omega)

end

/-! ## The interpolation of any table (R350, R351, R353, R354) -/

section
variable {e : List Nat} {w b lo hi v k r : Nat}

theorem clamp_of_le (hlo : lo ≤ hi) (h : v ≤ lo) : clamp v lo hi = lo := by
  rw [clamp, max_eq_right h, min_eq_left hlo]

theorem clamp_of_ge (hlo : lo ≤ hi) (h : hi ≤ v) : clamp v lo hi = hi := by
  rw [clamp, max_eq_left (hlo.trans h), min_eq_right h]

theorem clamp_of_mem (hlo : lo ≤ v) (hhi : v ≤ hi) : clamp v lo hi = v := by
  rw [clamp, max_eq_left hlo, min_eq_left hhi]

theorem interp_of_mod_eq_zero (h : (clamp v lo hi - b) % w = 0) :
    interp e w b lo hi v = e.getD ((clamp v lo hi - b) / w) 0 := if_pos h

/-- The shortcut at remainder 0 is the formula's value there (R351). -/
theorem interp_eq_weightedMean (e : List Nat) (b lo hi v : Nat) (hw : 1 ≤ w) :
    interp e w b lo hi v = weightedMean w (e.getD ((clamp v lo hi - b) / w) 0)
      (e.getD ((clamp v lo hi - b) / w + 1) 0) ((clamp v lo hi - b) % w) := by
  by_cases h : (clamp v lo hi - b) % w = 0
  · rw [interp_of_mod_eq_zero h, weightedMean, h, Nat.mul_zero, Nat.zero_add, Nat.sub_zero, Nat.mul_div_cancel _ hw]
  · exact if_neg h

/-- Bucket and remainder are the quotient and remainder of the offset. -/
theorem bucket_of_offset (h : clamp v lo hi - b = w * k + r) (hr : r < w) :
    (clamp v lo hi - b) / w = k ∧ (clamp v lo hi - b) % w = r := by
  rw [h, Nat.mul_add_div (by omega), Nat.div_eq_of_lt hr, Nat.mul_add_mod, Nat.mod_eq_of_lt hr]
  exact ⟨rfl, rfl⟩

theorem interpolates_interp (e : List Nat) (w b lo hi v : Nat) :
    Interpolates e w b lo hi v (interp e w b lo hi v) := by
  intro k r hoffset hr
  obtain ⟨hk, hmod⟩ := bucket_of_offset (v := v) (lo := lo) (hi := hi) hoffset hr
  simp only [interp, hk, hmod]

theorem interp_of_offset (h : clamp v lo hi - b = w * k + r) (hr : r < w) :
    interp e w b lo hi v = weightedMean w (e.getD k 0) (e.getD (k + 1) 0) r := by
  obtain ⟨hk, hmod⟩ := bucket_of_offset h hr
  rw [interp_eq_weightedMean e b lo hi v (by omega), hk, hmod]

theorem interp_of_breakpoint (hw : 1 ≤ w) (h : clamp v lo hi - b = w * k) : interp e w b lo hi v = e.getD k 0 := by
  obtain ⟨hk, hmod⟩ := bucket_of_offset (r := 0) h hw
  rw [interp_of_mod_eq_zero hmod, hk]

/-- On a table that does not increase, the value does not increase: within a bucket by the weights, and from one bucket
to a later one past the breakpoint between them (R355). -/
theorem interp_antitone (he : Antitone fun i => e.getD i 0) (hw : 1 ≤ w) (b lo hi : Nat) :
    Antitone (interp e w b lo hi) := by
  intro v v' hle
  have hoffset : clamp v lo hi - b ≤ clamp v' lo hi - b :=
    Nat.sub_le_sub_right (min_le_min_right hi (max_le_max_right lo hle)) b
  rw [interp_eq_weightedMean e b lo hi v hw, interp_eq_weightedMean e b lo hi v' hw]
  generalize clamp v lo hi - b = x at hoffset
  generalize clamp v' lo hi - b = x' at hoffset
  have hr : x % w ≤ w := (Nat.mod_lt x hw).le
  have hr' : x' % w ≤ w := (Nat.mod_lt x' hw).le
  obtain hsame | hlater := (Nat.div_le_div_right (c := w) hoffset).eq_or_lt
  · have hrr : x % w ≤ x' % w := by
      have hx := Nat.div_add_mod x w
      have hx' := Nat.div_add_mod x' w
      rw [hsame] at hx
      omega
    rw [hsame]
    exact weightedMean_le_of_le (he (Nat.le_succ _)) hrr hr'
  · calc weightedMean w (e.getD (x' / w) 0) (e.getD (x' / w + 1) 0) (x' % w)
      _ ≤ e.getD (x' / w) 0 := weightedMean_le hr' le_rfl (he (Nat.le_succ _))
      _ ≤ e.getD (x / w + 1) 0 := he hlater
      _ ≤ weightedMean w (e.getD (x / w) 0) (e.getD (x / w + 1) 0) (x % w) :=
        le_weightedMean hw hr (he (Nat.le_succ _)) le_rfl

/-- Neighbours that do not increase make the whole table non-increasing, as an entry past the end reads 0. -/
theorem antitone_getD_of_neighbours (h : Neighbours (fun x y => x ≥ y) e) : Antitone fun i => e.getD i 0 := by
  refine antitone_nat_of_succ_le fun i => ?_
  by_cases hi : i + 1 < e.length
  · exact h i hi
  · rw [List.getD_eq_default _ _ (not_lt.1 hi)]
    exact Nat.zero_le _

theorem getD_mem (h : k < e.length) : e.getD k 0 ∈ e := by
  rw [List.getD_eq_getElem _ _ h]
  exact List.getElem_mem h

end

/-- Settles O40: inside the bounds the clamp keeps the breakpoint, whose offset is a whole number of widths. -/
theorem breakpointsReproduceExactly : Obligations.BreakpointsReproduceExactly := by
  intro e w b lo hi k hw hlo hhi
  refine interp_of_breakpoint hw ?_
  rw [clamp_of_mem hlo hhi, Nat.add_sub_cancel_left]

/-! ## The tables of a board (checks c3, c6, c7; R357) -/

/-- A table with its width, its base and its upper clamp bound, where the clamped domain is the span of the table. -/
structure GaugeTable (e : List Nat) (w b hi : Nat) : Prop where
  two_le_length : 2 ≤ e.length
  entry_le : ∀ x ∈ e, x ≤ 0xFFFF
  width_pos : 1 ≤ w
  span : b + w * (e.length - 1) = hi

theorem gaugeTable_of_mem {c : Board} {e : List Nat} {w b hi : Nat}
    (hmem : (e, w) ∈ [(c.cfg.tabRpm, c.cfg.wRpm), (c.cfg.tabSpd, c.cfg.wSpd), (c.cfg.tabTmp, c.cfg.wTmp),
      (c.cfg.tabFuel, c.cfg.wFuel)]) (hspan : b + w * (e.length - 1) = hi) : GaugeTable e w b hi := by
  obtain ⟨hlength, hentries, hwidth⟩ := (Scope.passes_c3_iff c.cfg).1 (board_passes c .c3) e w hmem
  exact ⟨hlength, hentries, hwidth, hspan⟩

section
variable (c : Board)

theorem gaugeTable_rpm : GaugeTable c.cfg.tabRpm c.cfg.wRpm 0 (c.cfg.wRpm * (c.cfg.tabRpm.length - 1)) :=
  gaugeTable_of_mem (c := c) (by simp) (Nat.zero_add _)

theorem gaugeTable_spd : GaugeTable c.cfg.tabSpd c.cfg.wSpd 0 (c.cfg.wSpd * (c.cfg.tabSpd.length - 1)) :=
  gaugeTable_of_mem (c := c) (by simp) (Nat.zero_add _)

theorem gaugeTable_tmp : GaugeTable c.cfg.tabTmp c.cfg.wTmp c.cfg.tmpLo c.cfg.tmpHi :=
  gaugeTable_of_mem (c := c) (by simp) ((Scope.passes_c6_iff c.cfg).1 (board_passes c .c6))

theorem gaugeTable_fuel : GaugeTable c.cfg.tabFuel c.cfg.wFuel c.cfg.fuelLo c.cfg.fuelHi :=
  gaugeTable_of_mem (c := c) (by simp) ((Scope.passes_c7_iff c.cfg).1 (board_passes c .c7))

end

namespace GaugeTable

section
variable {e : List Nat} {w b hi v k r m n : Nat}

theorem base_le (h : GaugeTable e w b hi) : b ≤ hi := h.span ▸ Nat.le_add_right _ _

theorem offset_le (h : GaugeTable e w b hi) (v : Nat) : clamp v b hi - b ≤ w * (e.length - 1) := by
  have hclamp : clamp v b hi ≤ hi := min_le_right _ _
  have hspan := h.span
  omega

theorem bucket_lt_length (h : GaugeTable e w b hi) (v : Nat) : (clamp v b hi - b) / w < e.length := by
  have hbucket := Nat.div_le_of_le_mul (h.offset_le v)
  have hlength := h.two_le_length
  omega

/-- A value off the breakpoints has an entry above it too: only the last breakpoint is in the last bucket (R351). -/
theorem bucket_succ_lt_length (h : GaugeTable e w b hi) (hr : (clamp v b hi - b) % w ≠ 0) :
    (clamp v b hi - b) / w + 1 < e.length := by
  have hparts := Nat.div_add_mod (clamp v b hi - b) w
  have hoffset := h.offset_le v
  have hbucket : (clamp v b hi - b) / w < e.length - 1 := by
    by_contra hlast
    have hle := Nat.mul_le_mul_left w (not_lt.1 hlast)
    omega
  exact Nat.add_lt_of_lt_sub hbucket

/-- Bounds of the entries are bounds of the interpolation (R353). -/
theorem interp_mem_range (h : GaugeTable e w b hi) (v : Nat) (hentries : ∀ x ∈ e, m ≤ x ∧ x < n) :
    m ≤ interp e w b b hi v ∧ interp e w b b hi v < n := by
  have hentry := hentries _ (getD_mem (h.bucket_lt_length v))
  by_cases hr : (clamp v b hi - b) % w = 0
  · rwa [interp_of_mod_eq_zero hr]
  · obtain ⟨hlower, hupper⟩ := hentry
    obtain ⟨hlower', hupper'⟩ := hentries _ (getD_mem (h.bucket_succ_lt_length hr))
    have hmod := (Nat.mod_lt (clamp v b hi - b) h.width_pos).le
    rw [interp_eq_weightedMean e b b hi v h.width_pos]
    exact ⟨le_weightedMean h.width_pos hmod hlower hlower',
      (weightedMean_le hmod (le_max_left _ _) (le_max_right _ _)).trans_lt (max_lt hupper hupper')⟩

/-- An interpolated value fits a setpoint register. -/
theorem toNat_interp (h : GaugeTable e w b hi) (v : Nat) :
    (BitVec.ofNat 16 (interp e w b b hi v)).toNat = interp e w b b hi v := by
  obtain ⟨-, hlt⟩ := h.interp_mem_range v fun x hx => ⟨x.zero_le, Nat.lt_succ_of_le (h.entry_le x hx)⟩
  rw [BitVec.toNat_ofNat, Nat.mod_eq_of_lt hlt]

theorem interp_first (h : GaugeTable e w b hi) (hv : v ≤ b) : interp e w b b hi v = e.getD 0 0 :=
  interp_of_breakpoint h.width_pos (by rw [clamp_of_le h.base_le hv, Nat.sub_self, Nat.mul_zero])

theorem interp_last (h : GaugeTable e w b hi) (hv : hi ≤ v) : interp e w b b hi v = e.getD (e.length - 1) 0 :=
  interp_of_breakpoint h.width_pos
    (by rw [clamp_of_ge h.base_le hv]; exact Nat.sub_eq_of_eq_add' h.span.symm)

/-- Strictly inside a bucket of a table whose neighbours are at least a width apart (R356). -/
theorem interp_interior (h : GaugeTable e w b hi)
    (hsteps : ∀ i, i + 1 < e.length → e.getD i 0 + w ≤ e.getD (i + 1) 0 ∨ e.getD (i + 1) 0 + w ≤ e.getD i 0)
    (hv : v = b + w * k + r) (hpos : 1 ≤ r) (hlt : r < w) (hhi : v ≤ hi) :
    min (e.getD k 0) (e.getD (k + 1) 0) < interp e w b b hi v ∧
      interp e w b b hi v < max (e.getD k 0) (e.getD (k + 1) 0) := by
  have hoffset : clamp v b hi - b = w * k + r := by
    rw [clamp_of_mem (by omega) hhi]
    omega
  obtain ⟨hk, hmod⟩ := bucket_of_offset hoffset hlt
  have hnext : k + 1 < e.length := hk ▸ h.bucket_succ_lt_length (by omega)
  rw [interp_of_offset hoffset hlt]
  exact weightedMean_strictly_inside (hsteps k hnext) hpos hlt

end

end GaugeTable

/-! ## The computed setpoints as numbers -/

section
variable (c : Board) {v v' : Half} {x : Byte}

theorem rpmSetpoint_toNat (h : v ≠ 0) : (rpmSetpoint c.cfg v).toNat = interpRpm c.cfg v.toNat := by
  rw [rpmSetpoint, if_neg h]
  exact (gaugeTable_rpm c).toNat_interp _

theorem spdSetpoint_toNat (h : x ≠ 0) : (spdSetpoint c.cfg x).toNat = interpSpd c.cfg x.toNat := by
  rw [spdSetpoint, if_neg h]
  exact (gaugeTable_spd c).toNat_interp _

theorem tmpSetpoint_toNat (hcold : x ≠ c.cfg.tempCold) (hhot : x ≠ c.cfg.tempHot) :
    (tmpSetpoint c.cfg x).toNat = interpTmp c.cfg x.toNat := by
  rw [tmpSetpoint, if_neg (not_or.2 ⟨hcold, hhot⟩)]
  exact (gaugeTable_tmp c).toNat_interp _

theorem fuelSetpoint_toNat (x : Byte) :
    (fuelSetpoint c.cfg x).toNat = interpFuel c.cfg (fuelPct c.cfg x.toNat) :=
  (gaugeTable_fuel c).toNat_interp _

/-- The half-periods lie between 1 and the value below the sentinel, as the entries do (check c4; R353). -/
theorem rpmSetpoint_bounds (h : v ≠ 0) :
    1 ≤ (rpmSetpoint c.cfg v).toNat ∧ (rpmSetpoint c.cfg v).toNat < c.cfg.hpDisabled.toNat := by
  obtain ⟨-, hentries, -⟩ := board_hpDisabled c
  rw [rpmSetpoint_toNat c h]
  exact (gaugeTable_rpm c).interp_mem_range _ hentries

theorem spdSetpoint_bounds (h : x ≠ 0) :
    1 ≤ (spdSetpoint c.cfg x).toNat ∧ (spdSetpoint c.cfg x).toNat < c.cfg.hpDisabled.toNat := by
  obtain ⟨-, -, hentries⟩ := board_hpDisabled c
  rw [spdSetpoint_toNat c h]
  exact (gaugeTable_spd c).interp_mem_range _ hentries

/-- A half-period below the sentinel is at most 0xFFFE and not the sentinel. -/
theorem enabled_of_lt {d p : Half} (h : p.toNat < d.toNat) : p.toNat ≤ 0xFFFE ∧ p ≠ d :=
  ⟨by omega, fun heq => by rw [heq] at h; exact lt_irrefl _ h⟩

/-- From 0 on, where the sentinel stands above every half-period (R355). -/
theorem rpmSetpoint_le_of_le (h : v.toNat ≤ v'.toNat) :
    (rpmSetpoint c.cfg v').toNat ≤ (rpmSetpoint c.cfg v).toNat := by
  by_cases hv' : v' = 0
  · have hv : v = 0 := by bv_omega
    rw [hv, hv']
  by_cases hv : v = 0
  · subst hv
    exact (rpmSetpoint_bounds c hv').2.le
  · rw [rpmSetpoint_toNat c hv, rpmSetpoint_toNat c hv']
    have htable := antitone_getD_of_neighbours ((Scope.passes_c5_iff c.cfg).1 (board_passes c .c5))
    exact interp_antitone htable (gaugeTable_rpm c).width_pos _ _ _ h

end

/-- FUEL_TO_PCT reads the sample's entry (R366, log 10). -/
theorem fuelScaling (c : Cfg) (v : Nat) : FuelScaling c v := by
  refine ⟨fun hidentity => ?_, fun x hx => ?_⟩
  · rw [fuelPct, hidentity, List.getD_nil]
  · rw [fuelPct, List.getD_eq_getElem?_getD, hx, Option.getD_some]

/-- The steps of TAB_FUEL are at least its width, up or down (check c8). -/
theorem fuel_steps (c : Board) (i : Nat) (hi : i + 1 < c.cfg.tabFuel.length) :
    c.cfg.tabFuel.getD i 0 + c.cfg.wFuel ≤ c.cfg.tabFuel.getD (i + 1) 0 ∨
      c.cfg.tabFuel.getD (i + 1) 0 + c.cfg.wFuel ≤ c.cfg.tabFuel.getD i 0 := by
  rcases (Scope.passes_c8_iff c.cfg).1 (board_passes c .c8) with hup | hdown
  · obtain ⟨hlt, hstep⟩ := hup i hi
    omega
  · obtain ⟨hlt, hstep⟩ := hdown i hi
    omega

/-! ## The operations (R360, R362, R364, R366) -/

section
variable {c : Chan} {v : Half} {s : State}

theorem setCmp_cmpAct_of_atWrap (h : s.board.cfg.pwmUpdate = .atWrap) : (setCmp c v s).cmpAct = s.cmpAct := by
  simp [h]

theorem setCmp_cmpAct_of_immediate (h : s.board.cfg.pwmUpdate = .immediate) :
    (setCmp c v s).cmpAct = s.cmpAct.set c v := by
  simp [h]

end

/-- Settles O34: the interpolated half-period fits its register. -/
theorem actRpmWritesHalfPeriod : Obligations.ActRpmWritesHalfPeriod := by
  intro v s
  refine ⟨_, exec_actRpm v s, rfl, fun hzero => if_pos hzero, fun hne => ?_⟩
  rw [Pair.set_ch0, rpmSetpoint_toNat s.board hne]
  exact interpolates_interp _ _ _ _ _ _

/-- Settles O35: the interpolated half-period fits its register. -/
theorem actSpdWritesHalfPeriod : Obligations.ActSpdWritesHalfPeriod := by
  intro v s
  refine ⟨_, exec_actSpd v s, rfl, fun hzero => if_pos hzero, fun hne => ?_⟩
  rw [Pair.set_ch1, spdSetpoint_toNat s.board hne]
  exact interpolates_interp _ _ _ _ _ _

/-- Settles O36: the sentinels take the first branch, and the interpolated compare value fits its register. -/
theorem actTmpWritesCompare : Obligations.ActTmpWritesCompare := by
  intro v s
  refine ⟨_, exec_actTmp v s, rfl, setCmp_cmpAct_of_atWrap, setCmp_cmpAct_of_immediate,
    fun hsentinel => if_pos hsentinel, fun hcold hhot => ?_⟩
  rw [setCmp_cmp, Pair.set_ch0, tmpSetpoint_toNat s.board hcold hhot]
  exact interpolates_interp _ _ _ _ _ _

/-- Settles O37: the interpolated compare value fits its register. -/
theorem actFuelWritesCompare : Obligations.ActFuelWritesCompare := by
  intro v s
  refine ⟨_, exec_actFuel v s, rfl, setCmp_cmpAct_of_atWrap, setCmp_cmpAct_of_immediate, ?_,
    fuelScaling s.board.cfg v.toNat⟩
  rw [setCmp_cmp, Pair.set_ch1, fuelSetpoint_toNat]
  exact interpolates_interp _ _ _ _ _ _

/-- Settles O39: a weighted mean lies between its entries, and the entries of the half-period tables lie between 1 and
the value below the sentinel. -/
theorem interpolationStaysBetweenEntries : Obligations.InterpolationStaysBetweenEntries := by
  refine ⟨fun e w b lo hi v hw _ => ?_, fun e w b lo hi v => interp_of_mod_eq_zero, fun s v hv => ?_, fun s v hv => ?_⟩
  · have hmod := (Nat.mod_lt (clamp v lo hi - b) hw).le
    rw [interp_eq_weightedMean e b lo hi v hw]
    exact ⟨le_weightedMean hw hmod (min_le_left _ _) (min_le_right _ _),
      weightedMean_le hmod (le_max_left _ _) (le_max_right _ _)⟩
  · obtain ⟨hpos, hlt⟩ := rpmSetpoint_bounds s.board hv
    exact ⟨_, exec_actRpm v s, hpos, enabled_of_lt hlt⟩
  · obtain ⟨hpos, hlt⟩ := spdSetpoint_bounds s.board hv
    exact ⟨_, exec_actSpd v s, hpos, enabled_of_lt hlt⟩

/-- Settles O41: the half-period computed is non-increasing from 0 on. -/
theorem rpmHalfPeriodNonIncreasing : Obligations.RpmHalfPeriodNonIncreasing := fun s v v' h =>
  ⟨_, _, exec_actRpm v s, exec_actRpm v' s, rpmSetpoint_le_of_le s.board h⟩

/-- Settles O42: the fuel clamp spans the table, whose neighbours are at least a width apart. -/
theorem fuelEndsAndInteriors : Obligations.FuelEndsAndInteriors := by
  intro s v
  have htable := gaugeTable_fuel s.board
  refine ⟨_, exec_actFuel v s, fuelScaling s.board.cfg v.toNat, ?_⟩
  rw [setCmp_cmp, Pair.set_ch1, fuelSetpoint_toNat]
  exact ⟨htable.interp_first, htable.interp_last, fun _ _ => htable.interp_interior (fuel_steps s.board)⟩

/-! ## What an ACT operation writes (R368) -/

section
variable {s t : State}

theorem hp_of_actRpm {v : Half} (h : exec (.actRpm v) s = .next t) : t.hp.ch0 = rpmSetpoint s.board.cfg v := by
  cases h
  rfl

theorem hp_of_actSpd {v : Byte} (h : exec (.actSpd v) s = .next t) : t.hp.ch1 = spdSetpoint s.board.cfg v := by
  cases h
  rfl

theorem cmp_of_actTmp {v : Byte} (h : exec (.actTmp v) s = .next t) : t.cmp.ch0 = tmpSetpoint s.board.cfg v := by
  cases h
  rfl

theorem cmp_of_actFuel {v : Byte} (h : exec (.actFuel v) s = .next t) : t.cmp.ch1 = fuelSetpoint s.board.cfg v := by
  cases h
  rfl

end

/-- Settles O43: each setpoint is a function of the configuration and the operand. -/
theorem actWritesDependOnOperandOnly : Obligations.ActWritesDependOnOperandOnly := by
  intro s s' hboard
  refine ⟨fun v t t' h h' => ?_, fun v t t' h h' => ?_, fun v t t' h h' => ?_, fun v t t' h h' => ?_⟩
  · rw [hp_of_actRpm h, hp_of_actRpm h', hboard]
  · rw [hp_of_actSpd h, hp_of_actSpd h', hboard]
  · rw [cmp_of_actTmp h, cmp_of_actTmp h', hboard]
  · rw [cmp_of_actFuel h, cmp_of_actFuel h', hboard]

end Sys2Proof.Proofs.Interpolation
end

section
/-! PROOFS. 44_pwm.md: PTICK below PWM_TOP moves the count alone and at PWM_TOP starts the period again (R400, R401), so
through a period the number of ticks is the count, and the comparator (R403) is high for the first of them (R404). -/

namespace Sys2Proof.Proofs.Pwm

open Sys2Proof Sys2Proof.Machine Sys2Proof.Slice0

/-- The top count of a board fits the counter (check c10). -/
theorem board_pwmTop_le (b : Board) : b.cfg.pwmTop ≤ 0xFFFF :=
  ((Scope.passes_c10_iff b.cfg).1 (board_passes b .c10)).2

section
variable {s : State} {n : Nat}

/-! ## One tick (R400, R401) -/

theorem pwmTick_of_top (h : s.pcnt.toNat = s.board.cfg.pwmTop) : pwmTick s =
    { s with pcnt := 0, cmpAct := if s.board.cfg.pwmUpdate = .atWrap then s.cmp else s.cmpAct } := if_pos h

theorem pwmTick_of_lt_top (h : s.pcnt.toNat < s.board.cfg.pwmTop) : pwmTick s = { s with pcnt := s.pcnt + 1 } :=
  if_neg h.ne

/-- Counts up to the top do not overflow the counter. -/
theorem pcnt_add_toNat (h : s.pcnt.toNat + n ≤ s.board.cfg.pwmTop) :
    (s.pcnt + BitVec.ofNat 16 n).toNat = s.pcnt.toNat + n := by
  have htop := board_pwmTop_le s.board
  rw [BitVec.toNat_add, BitVec.toNat_ofNat, Nat.add_mod_mod, Nat.mod_eq_of_lt (by omega)]

/-! ## A run of ticks -/

theorem perform_pticks_of_le_top (h : s.pcnt.toNat + n ≤ s.board.cfg.pwmTop) :
    perform (List.replicate n .ptick) s = some { s with pcnt := s.pcnt + BitVec.ofNat 16 n } := by
  induction n with
  | zero => simp [perform]
  | succ n ih =>
    have hcount := pcnt_add_toNat (Nat.le_of_succ_le h)
    rw [List.replicate_succ', perform_append, ih (Nat.le_of_succ_le h), Option.bind_some,
      perform_cons [] (exec_ptick _), pwmTick_of_lt_top (hcount.trans_lt h), BitVec.ofNat_add, ← BitVec.add_assoc]
    rfl

/-- The tick after the top count ends the period. -/
theorem perform_pticks_of_eq_top (h : s.pcnt.toNat + n = s.board.cfg.pwmTop) :
    perform (List.replicate (n + 1) .ptick) s =
      some { s with pcnt := 0, cmpAct := if s.board.cfg.pwmUpdate = .atWrap then s.cmp else s.cmpAct } := by
  rw [List.replicate_succ', perform_append, perform_pticks_of_le_top h.le, Option.bind_some,
    perform_cons [] (exec_ptick _), pwmTick_of_top ((pcnt_add_toNat h.le).trans h)]
  rfl

/-- After n ticks of a period the comparator sees the count n (R403). -/
theorem pout_after_pticks (c : Chan) (hzero : s.pcnt.toNat = 0) (h : n ≤ s.board.cfg.pwmTop) :
    ((perform (List.replicate n .ptick) s).any fun t => t.pout c) = decide (n < (s.cmpAct.get c).toNat) := by
  have hle : s.pcnt.toNat + n ≤ s.board.cfg.pwmTop := by rwa [hzero, zero_add]
  rw [perform_pticks_of_le_top hle, Option.any_some, Memory.pout_eq, pcnt_add_toNat hle, hzero, zero_add]

end

theorem countP_range_lt (m N : Nat) : (List.range N).countP (fun n => decide (n < m)) = min m N := by
  rw [List.countP_eq_length_filter, ← List.Ico.zero_bot, List.Ico.filter_lt, List.Ico.length, Nat.sub_zero, min_comm]

/-- Settles O24: the ticks of the period after which the output is high are those below the compare value, and the
last tick of the period is the wrap. -/
theorem pwmDutyLaw : Obligations.PwmDutyLaw := by
  intro c s hpcnt
  have hzero : s.pcnt.toNat = 0 := congrArg BitVec.toNat hpcnt
  constructor
  · rw [← countP_range_lt]
    refine List.countP_congr fun n hn => ?_
    rw [pout_after_pticks c hzero (Nat.le_of_lt_succ (List.mem_range.1 hn))]
  · exact ⟨_, perform_pticks_of_eq_top (by rw [hzero, zero_add]), rfl⟩

/-- Settles O23: the wrap under either PWM_UPDATE, and the count below it. -/
theorem ptickCountsAndLoadsAtWrap : Obligations.PtickCountsAndLoadsAtWrap := by
  intro s
  refine ⟨pwmTick s, exec_ptick s, fun htop hupdate => ?_, fun htop hupdate => ?_, fun hlt => ?_⟩
  · rw [pwmTick_of_top htop, if_pos hupdate]
  · rw [pwmTick_of_top htop, if_neg (by simp [hupdate])]
  · rw [pwmTick_of_lt_top hlt]
    exact ⟨pcnt_add_toNat (n := 1) hlt, rfl⟩

end Sys2Proof.Proofs.Pwm
end

section
/-! PROOFS. 45_gate.md: OILIN records the pin level alone (R450), and GATE compares rpm strictly with the threshold and
latches the pin level or 0 (R452), so at the source's threshold the lamp follows the switch above 1450 rpm only (R455). -/

namespace Sys2Proof.Proofs.Gate

open Sys2Proof Sys2Proof.Machine Sys2Proof.Slice0

/-- Settles O26: the law of OILIN's meaning. -/
theorem oilinLatchesLevel : Obligations.OilinLatchesLevel := exec_oilin

section
variable {s : State}

/-! ## The two gate states (R452) -/

/-- Armed: the lamp mirrors the pin. -/
theorem exec_gate_of_threshold_lt (h : s.board.cfg.gateThreshold < s.rpm.toNat) :
    exec .gate s = .next { s with armed := true, lamp := s.oilPin } := by
  have hrunning : engineRunning s = true := decide_eq_true h
  rw [exec_gate, hrunning, Bool.true_and]

/-- Suppressed: the lamp is forced off. -/
theorem exec_gate_of_le_threshold (h : s.rpm.toNat ≤ s.board.cfg.gateThreshold) :
    exec .gate s = .next { s with armed := false, lamp := false } := by
  have hstopped : engineRunning s = false := decide_eq_false h.not_gt
  rw [exec_gate, hstopped, Bool.false_and]

end

/-- Settles O27: the two gate states. -/
theorem gateMirrorsOnlyAboveThreshold : Obligations.GateMirrorsOnlyAboveThreshold :=
  fun _ => ⟨exec_gate_of_threshold_lt, exec_gate_of_le_threshold⟩

/-! ## The source's threshold (R455) -/

theorem gateThreshold_of_sourceFixed {c : Cfg} (h : c.sourceFixed = true) : c.gateThreshold = 1450 := by
  simp only [Cfg.sourceFixed, Bool.and_eq_true, beq_iff_eq] at h
  exact h.2

/-- Settles O28: the two gate states at the threshold 1450. -/
theorem lampFollowsSwitchAbove1450 : Obligations.LampFollowsSwitchAbove1450 := by
  intro s hsource
  have hthreshold := gateThreshold_of_sourceFixed hsource
  obtain hle | hlt := le_or_gt s.rpm.toNat 1450
  · exact ⟨_, exec_gate_of_le_threshold (hthreshold ▸ hle), fun _ => rfl, fun hlt => absurd hle hlt.not_ge, fun _ => rfl⟩
  · refine ⟨_, exec_gate_of_threshold_lt (hthreshold ▸ hlt), fun hle => absurd hle hlt.not_ge, fun _ => rfl, ?_⟩
    exact fun hsuppressed => nomatch hsuppressed

end Sys2Proof.Proofs.Gate
end

section
/-! PROOFS. 46_host_bus.md: RD and WR at a register's address are accesses of that register (R500 to R503), and RESET is
power-on of the same board with the oil pin and the fault list kept (R506). -/

namespace Sys2Proof.Proofs.HostBus

open Sys2Proof Sys2Proof.Machine Sys2Proof.Slice0

/-! ## RESET (R506) -/

/-- RESET writes what power-on writes and keeps the pin, the fault list and the model's own fields. -/
theorem resetState_eq_powerOn (s : State) : resetState s =
    { State.powerOn s.board s.oilPin with
      faults := s.faults, pending := s.pending, response := s.response, draws := s.draws } := rfl

/-- RESET reads only the board, which it keeps. -/
theorem resetState_resetState (s : State) : resetState (resetState s) = resetState s := rfl

/-- Settles O2: RESET as power-on, and RESET twice is RESET once. -/
theorem resetKeepsPinAndFaults : Obligations.ResetKeepsPinAndFaults := fun s =>
  ⟨resetState s, exec_reset s, resetState_eq_powerOn s, by rw [exec_reset, resetState_resetState]⟩

/-! ## RD (R500, R501) -/

theorem exec_rd_addr (r : HostReg) (s : State) :
    exec (.rd r.addr) s = .next { s with response := some (regRead r s) } := by
  have hread : busRead r.addr s = .ok (regRead r s) := by rw [busRead, HostReg.ofAddr_addr]
  rw [exec_rd, hread]

/-- The register file lists the registers in the assembler's order, each at its address with what RegRead returns. -/
theorem registerFile_eq_map (s : State) :
    registerFile s = registerNames.map fun entry => (entry.1.addr, regRead entry.1 s) := rfl

/-- Settles O29: an entry of the register file is a register's address and content, which RD answers. -/
theorem rdReturnsRegister : Obligations.RdReturnsRegister := by
  intro s a x hentry
  rw [registerFile_eq_map] at hentry
  obtain ⟨⟨r, _⟩, _, hr⟩ := List.mem_map.1 hentry
  obtain ⟨rfl, rfl⟩ := Prod.mk.inj hr
  exact exec_rd_addr r s

/-! ## WR of a setpoint (R502, R503, 44_pwm.md R402) -/

/-- The register of a compare setpoint (20_memory.md R101). -/
def cmpReg : Chan → HostReg
  | .ch0 => .cmp0
  | .ch1 => .cmp1

theorem exec_wr_cmpReg (c : Chan) (v : Half) (s : State) : exec (.wr (cmpReg c).addr v) s = .next (setCmp c v s) := by
  have hwrite : busWrite (cmpReg c).addr v s = .ok (setCmp c v s) := by
    rw [Memory.busWrite_addr]
    cases c
    all_goals rfl
  rw [exec_wr, hwrite]

section
variable {s : State}

theorem exec_wr_cmpReg_of_atWrap (h : s.board.cfg.pwmUpdate = .atWrap) (c : Chan) (v : Half) :
    exec (.wr (cmpReg c).addr v) s = .next { s with cmp := s.cmp.set c v } := by
  have hnot : s.board.cfg.pwmUpdate ≠ .immediate := by simp [h]
  rw [exec_wr_cmpReg, setCmp, if_neg hnot]

theorem exec_wr_cmpReg_of_immediate (h : s.board.cfg.pwmUpdate = .immediate) (c : Chan) (v : Half) :
    exec (.wr (cmpReg c).addr v) s = .next { s with cmp := s.cmp.set c v, cmpAct := s.cmpAct.set c v } := by
  rw [exec_wr_cmpReg, setCmp, if_pos h]

end

/-- Settles O31: the write of a half-period, and the write of a compare value under either PWM_UPDATE. -/
theorem wrWritesSetpoint : Obligations.WrWritesSetpoint := fun s v =>
  ⟨fun hv => Wave.exec_wr_hpAddr .ch0 hv s,
    fun hv => Wave.exec_wr_hpAddr .ch1 hv s,
    fun hwrap => ⟨exec_wr_cmpReg_of_atWrap hwrap .ch0 v, exec_wr_cmpReg_of_atWrap hwrap .ch1 v⟩,
    fun himmediate => ⟨exec_wr_cmpReg_of_immediate himmediate .ch0 v, exec_wr_cmpReg_of_immediate himmediate .ch1 v⟩⟩

end Sys2Proof.Proofs.HostBus
end

section
/-! PROOFS. 70_reset_and_hazards.md: the block's first state is ResetState with the drawn pin level and no faults (R600,
R601). -/

namespace Sys2Proof.Proofs.Reset

open Sys2Proof Sys2Proof.Machine

/-- The source's value of the cold sentinel (00_scope.md R9, 41_adc_sampler.md R254). -/
theorem tempCold_of_sourceFixed {c : Cfg} (h : c.sourceFixed = true) : c.tempCold = 0 := by
  simp only [Cfg.sourceFixed, Bool.and_eq_true, beq_iff_eq] at h
  tauto

/-- R600 with the source's sentinels: power-on's temperature, half-periods and countdowns are literal values. -/
theorem powerOn_sentinels_of_sourceFixed {b : Board} (h : b.cfg.sourceFixed = true) (l : Bool) :
    (State.powerOn b l).temp = 0 ∧ (State.powerOn b l).hp = ⟨0xFFFF, 0xFFFF⟩ ∧
      (State.powerOn b l).wcnt = ⟨0xFFFF, 0xFFFF⟩ := by
  have hcold := tempCold_of_sourceFixed h
  obtain ⟨-, hdisabled⟩ := Scope.sentinels_of_sourceFixed h
  simp only [State.powerOn, hcold, hdisabled, and_self]

/-- Settles O1: power-on writes R600's values field by field, and both the source-fixed boards and the machine's own board
give its sentinels the source's values. -/
theorem powerOnGivesResetState : Obligations.PowerOnGivesResetState := by
  refine ⟨fun b l => ⟨State.powerOn b l, ?_⟩, rfl,
    powerOn_sentinels_of_sourceFixed Config.board.fixed Config.oilPinInit⟩
  exact ⟨rfl, rfl, rfl, rfl, rfl, rfl, rfl, rfl, rfl, rfl, rfl, rfl, rfl, rfl, rfl, rfl, rfl, rfl, rfl,
    fun hsource => powerOn_sentinels_of_sourceFixed hsource l⟩

end Sys2Proof.Proofs.Reset
end

section
/-! PROOFS. What an operation and a step can do, said once: the accesses of the host bus that write and those that fault
(46_host_bus.md R500 to R504), the operation a word stands for (30_encoding.md R152 to R156), the fault records of a step
(60_exceptions.md R551, R552) and the writers of every field (10_state.md section 3). -/

namespace Sys2Proof.Proofs.Effects

open Sys2Proof Sys2Proof.Machine Sys2Proof.Slice0

/-! ## Encoding and decoding (30_encoding.md R152, R154) -/

/-- Settles O44: the fields of the word of an operation are its opcode and operands, which the decoder reads back. -/
theorem decodeInvertsEncode : Obligations.DecodeInvertsEncode := Encoding.decode_encode

/-- Settles O45: every branch of the decoder requires zero in the fields it does not read. -/
theorem encodeInvertsDecode : Obligations.EncodeInvertsDecode := fun _ _ => Encoding.encode_of_decode

/-! ## The operations of the host bus -/

section
variable {a : Byte} {v : Half} {k : FaultKind} {s t : State}

theorem busRead_error (h : busRead a s = .error k) : k = .busUnmapped a := by
  unfold busRead at h
  split at h
  · exact (Except.error.inj h).symm
  · cases h

/-- The faults of a write, by what is wrong: the address, the register, the value (60_exceptions.md R553). -/
theorem busWrite_error (h : busWrite a v s = .error k) :
    k = .busUnmapped a ∨ k = .busReadonly a ∨ k = .badValue a v := by
  unfold busWrite at h
  split at h
  · exact .inl (Except.error.inj h).symm
  · rename_i r _
    cases r
    case hp0 | hp1 =>
      rw [regWrite, writeHp] at h
      split at h
      · exact .inr (.inr (Except.error.inj h).symm)
      · cases h
    case cmp0 | cmp1 => cases h
    all_goals exact .inr (.inl (Except.error.inj h).symm)

/-- A write that is performed writes the setpoint at its address (46_host_bus.md R502). -/
theorem busWrite_ok (h : busWrite a v s = .ok t) :
    ∃ c, a = hpAddr c ∧ v ≠ 0 ∧ t = { s with hp := s.hp.set c v } ∨ a = (HostBus.cmpReg c).addr ∧ t = setCmp c v s := by
  cases hr : HostReg.ofAddr a with
  | none =>
    rw [busWrite, hr] at h
    cases h
  | some r =>
    obtain rfl := HostReg.addr_of_ofAddr hr
    rw [Memory.busWrite_addr] at h
    cases r
    case hp0 =>
      rw [regWrite, writeHp] at h
      split_ifs at h with hv
      exact ⟨.ch0, .inl ⟨rfl, hv, (Except.ok.inj h).symm⟩⟩
    case hp1 =>
      rw [regWrite, writeHp] at h
      split_ifs at h with hv
      exact ⟨.ch1, .inl ⟨rfl, hv, (Except.ok.inj h).symm⟩⟩
    case cmp0 => exact ⟨.ch0, .inr ⟨rfl, (Except.ok.inj h).symm⟩⟩
    case cmp1 => exact ⟨.ch1, .inr ⟨rfl, (Except.ok.inj h).symm⟩⟩
    all_goals cases h

end

/-- The faults an operation can name once decoded (60_exceptions.md R551). -/
def CanRaise : Instr → FaultKind → Prop
  | .rd a, k => k = .busUnmapped a
  | .wr a v, k => k = .busUnmapped a ∨ k = .busReadonly a ∨ k = .badValue a v
  | _, _ => False

/-- What RD and WR do to the state. -/
inductive HostAccess (s : State) : Instr → State → Prop
  | read (a : Byte) (x : Half) : HostAccess s (.rd a) { s with response := some x }
  | writeHp (c : Chan) (v : Half) (hv : v ≠ 0) : HostAccess s (.wr (hpAddr c) v) { s with hp := s.hp.set c v }
  | writeCmp (c : Chan) (v : Half) : HostAccess s (.wr (HostBus.cmpReg c).addr v) (setCmp c v s)
  | fault {i : Instr} {k : FaultKind} (hk : CanRaise i k) : HostAccess s i (recordFault k (encode i) s)

theorem hostAccess_of_rd {a : Byte} {s t : State} (h : exec (.rd a) s = .next t) : HostAccess s (.rd a) t := by
  rw [exec_rd] at h
  obtain rfl := Host.Outcome.next.inj h
  split
  · exact .read a _
  · next hk => exact .fault (busRead_error hk)

theorem hostAccess_of_wr {a : Byte} {v : Half} {s t : State} (h : exec (.wr a v) s = .next t) :
    HostAccess s (.wr a v) t := by
  rw [exec_wr] at h
  obtain rfl := Host.Outcome.next.inj h
  split
  · next hok =>
    obtain ⟨c, ⟨rfl, hv, rfl⟩ | ⟨rfl, rfl⟩⟩ := busWrite_ok hok
    · exact .writeHp c v hv
    · exact .writeCmp c v
  · next hk => exact .fault (busWrite_error hk)

/-! ## The writers of every field (10_state.md section 3) -/

/-- Settles O56: operation by operation, every field that it does not write is kept. -/
theorem fieldsHaveOnlyTheirWriters : Obligations.FieldsHaveOnlyTheirWriters := by
  intro i s t h hreset
  cases i
  case rd =>
    cases hostAccess_of_rd h
    all_goals simp
  case wr =>
    cases hostAccess_of_wr h
    case writeHp c _ =>
      cases c
      all_goals simp [hpAddr]
    case writeCmp c =>
      cases c
      all_goals simp +contextual [HostBus.cmpReg, HostReg.addr]
    case fault => simp
  case edge =>
    obtain rfl := Host.Outcome.next.inj h
    simp [Pair.get_set]
  case actTmp | actFuel =>
    obtain rfl := Host.Outcome.next.inj h
    simp +contextual
  case reset => exact absurd rfl hreset
  all_goals
    obtain rfl := Host.Outcome.next.inj h
    simp

theorem hostOperation_of_writer {α : Type} {i : Instr} {a : Byte} {act : α → Instr}
    (hact : ∀ x, hostOperation (act x) = true) (h : (∃ v, i = .wr a v) ∨ ∃ x, i = act x) : hostOperation i = true := by
  obtain ⟨v, rfl⟩ | ⟨x, rfl⟩ := h
  · rfl
  · exact hact x

/-- Settles O57: a measurement's writers are events, a setpoint's writers are host operations. -/
theorem measurementsByEventsSetpointsByHost : Obligations.MeasurementsByEventsSetpointsByHost := by
  intro i s t h hreset
  obtain ⟨-, -, -, hrate, hsample, hhp0, hhp1, hcmp0, hcmp1, -⟩ := fieldsHaveOnlyTheirWriters i s t h hreset
  constructor
  · intro hhost
    have hnotick : ¬ (i = .btick ∨ ∃ d, i = .bticke d) := by
      rintro (rfl | ⟨_, rfl⟩)
      all_goals cases hhost
    have hnosample : ¬ ∃ d, i = .adcdone d := by
      rintro ⟨_, rfl⟩
      cases hhost
    have hrates := mt hrate hnotick
    have hsamples := mt hsample hnosample
    simp only [not_or, not_not] at hrates hsamples
    obtain ⟨hrpm, hspeed, -⟩ := hrates
    obtain ⟨htemp, hfuel, -⟩ := hsamples
    exact ⟨hrpm, hspeed, htemp, hfuel⟩
  · intro hevent
    have hnohost : ¬ hostOperation i = true := by simp [hevent]
    constructor
    all_goals
      refine Pair.ext_get fun c => by_contra fun hne => hnohost ?_
      cases c
    · exact hostOperation_of_writer (fun _ => rfl) (hhp0 hne)
    · exact hostOperation_of_writer (fun _ => rfl) (hhp1 hne)
    · exact hostOperation_of_writer (fun _ => rfl) (hcmp0 hne)
    · exact hostOperation_of_writer (fun _ => rfl) (hcmp1 hne)

/-- Settles O3: the fields of log 2, 4 and 5, operation by operation. -/
theorem modelFieldsAtResetAndThroughOperations : Obligations.ModelFieldsAtResetAndThroughOperations := by
  refine ⟨⟨rfl, rfl, rfl⟩, fun i s => ?_⟩
  obtain ⟨t, h⟩ := exec_next i s
  refine ⟨t, h, ?_⟩
  cases i
  case rd =>
    cases hostAccess_of_rd h
    all_goals simp
  case wr =>
    cases hostAccess_of_wr h
    all_goals simp
  case bticke c =>
    obtain rfl := Host.Outcome.next.inj h
    cases c
    all_goals simp
  all_goals
    obtain rfl := Host.Outcome.next.inj h
    simp

/-! ## Runs without RESET -/

theorem not_mem_reset_cons {i : Instr} {ops : List Instr} (h : Instr.reset ∉ i :: ops) :
    i ≠ .reset ∧ Instr.reset ∉ ops :=
  ⟨fun hi => h (hi ▸ List.mem_cons_self), fun hops => h (List.mem_cons_of_mem _ hops)⟩

/-! ## The fault records (60_exceptions.md R551, R552) -/

theorem exec_faults {i : Instr} {s t : State} (h : exec i s = .next t) :
    t.faults = s.faults ∨ ∃ k, CanRaise i k ∧ t = recordFault k (encode i) s := by
  cases i
  case rd =>
    cases hostAccess_of_rd h
    case read => exact .inl rfl
    case fault k hk => exact .inr ⟨k, hk, rfl⟩
  case wr =>
    cases hostAccess_of_wr h
    case writeHp | writeCmp => exact .inl rfl
    case fault k hk => exact .inr ⟨k, hk, rfl⟩
  all_goals
    obtain rfl := Host.Outcome.next.inj h
    exact .inl (by simp)

/-- Settles O55: a changed fault list has the one record of a fault that the operation can name. -/
theorem onlyHostAccessesFault : Obligations.OnlyHostAccessesFault := by
  intro i s t h hchanged
  obtain ⟨k, hk, rfl⟩ := (exec_faults h).resolve_left hchanged
  cases i
  case rd a =>
    obtain rfl := hk
    exact .inl ⟨a, rfl, rfl⟩
  case wr a v =>
    refine .inr ⟨a, v, rfl, ?_⟩
    obtain rfl | rfl | rfl := hk
    · exact .inl rfl
    · exact .inr (.inl rfl)
    · exact .inr (.inr rfl)
  all_goals exact hk.elim

/-! ## A step (20_memory.md R115, 30_encoding.md R156) -/

section
variable {s t : State} {w : Word} {rest : List Word} {i : Instr}

theorem step_idle (h : s.pending = []) : step s = .next s := by
  rw [step, takeWord, h]

theorem step_decoded (h : s.pending = w :: rest) (hw : decode w = .ok i) :
    step s = exec i { s with pending := rest, response := none } := by
  rw [step, takeWord, h]
  simp only [hw]

theorem step_illegal (h : s.pending = w :: rest) (hw : ∀ i, decode w ≠ .ok i) :
    step s = .next (faulted ⟨.illegal w, w⟩ { s with pending := rest }) := by
  rw [step, takeWord, h]
  cases hdecode : decode w with
  | ok i => exact absurd hdecode (hw i)
  | error r =>
    simp only [hdecode]
    rfl

/-- A step holds the state, performs the operation of the oldest word, or records that the word is none. -/
theorem step_cases (s : State) : step s = .next s ∨ ∃ w rest, s.pending = w :: rest ∧
    ((∃ i, decode w = .ok i ∧ step s = exec i { s with pending := rest, response := none }) ∨
      step s = .next (faulted ⟨.illegal w, w⟩ { s with pending := rest })) := by
  cases hpending : s.pending with
  | nil => exact .inl (step_idle hpending)
  | cons w rest =>
    refine .inr ⟨w, rest, rfl, ?_⟩
    by_cases hw : ∃ i, decode w = .ok i
    · obtain ⟨i, hi⟩ := hw
      exact .inl ⟨i, hi, step_decoded hpending hi⟩
    · exact .inr (step_illegal hpending (not_exists.1 hw))

end

/-- Settles O51: the three equations of a step; the word of an operation decodes to it. -/
theorem stepRunsDecodedWord : Obligations.StepRunsDecodedWord := by
  refine fun s => ⟨fun _ _ _ => step_decoded, step_idle, fun i => ?_⟩
  have hword : BitVec.ofNat 32 ((encode i).toNat % 2 ^ 32) = encode i := by
    rw [Nat.mod_eq_of_lt (encode i).isLt, BitVec.ofNat_toNat, BitVec.setWidth_eq]
  rw [State.withFetchWord, hword]
  exact step_decoded (presentWord_pending _ s) (Encoding.decode_encode i)

/-- Settles O52: a word that no row accepts decodes to no operation. -/
theorem illegalWordRecorded : Obligations.IllegalWordRecorded := by
  intro s w rest hpending hrows
  have hrefused : ∀ r ∈ opcodeTable, r.accepts w = false := fun r hr => beq_false_of_ne (hrows r hr)
  exact step_illegal hpending (Encoding.decode_ne_ok_of_no_row hrefused)

/-- Settles O53: an idle step, an operation and an illegal word each answer a next state. -/
theorem everyStepAnswersNext : Obligations.EveryStepAnswersNext := by
  intro s
  obtain hidle | ⟨w, rest, -, ⟨i, -, hexec⟩ | hillegal⟩ := step_cases s
  · exact ⟨s, hidle⟩
  · rw [hexec]
    exact exec_next i _
  · exact ⟨_, hillegal⟩

/-- Settles O54: the record of an operation holds the operation's word, which is the word that decoded to it. -/
theorem faultsArePrecise : Obligations.FaultsArePrecise := by
  intro s t h
  obtain hidle | ⟨w, rest, hpending, ⟨i, hi, hexec⟩ | hillegal⟩ := step_cases s
  · obtain rfl := Host.Outcome.next.inj (hidle.symm.trans h)
    exact .inl rfl
  · refine (exec_faults (hexec.symm.trans h)).imp id ?_
    rintro ⟨k, -, rfl⟩
    rw [Encoding.encode_of_decode hi]
    exact ⟨⟨k, w⟩, hpending, rfl⟩
  · obtain rfl := Host.Outcome.next.inj (hillegal.symm.trans h)
    exact .inr ⟨⟨.illegal w, w⟩, hpending, rfl⟩

end Sys2Proof.Proofs.Effects
end

section
/-! PROOFS. 10_state.md R73: the invariants hold at power-on, each operation keeps them, each by the writers of its field,
and so does a step. -/

namespace Sys2Proof.Proofs.Invariants

open Sys2Proof Sys2Proof.Machine Sys2Proof.Slice0

/-! ## Power-on and RESET -/

theorem powerOn_inv (b : Board) (l : Bool) : (State.powerOn b l).Inv := by
  obtain ⟨hdisabled, -⟩ := board_hpDisabled b
  have hpos : 1 ≤ b.cfg.hpDisabled.toNat := one_le_two.trans hdisabled
  have hpair : ∀ c, 1 ≤ ((⟨b.cfg.hpDisabled, b.cfg.hpDisabled⟩ : Pair Half).get c).toNat := by
    intro c
    cases c
    all_goals exact hpos
  obtain ⟨hwindow, -⟩ := board_window b
  exact ⟨hpair, hpair, Nat.zero_le _, hwindow, .inl rfl, fun _ => rfl⟩

/-- The invariants do not speak of the pin, the fault list and the model's own fields. -/
theorem inv_of_bookkeeping {s : State} (h : s.Inv) (l : Bool) (f : List FaultRecord) (p : List Word) (r : Option Half)
    (n : Nat) : ({ s with oilPin := l, faults := f, pending := p, response := r, draws := n } : State).Inv :=
  ⟨h.wcnt_pos, h.hp_pos, h.pcnt_le, h.wph_lt, h.temp_legal, h.lamp_gated⟩

theorem resetState_inv (s : State) : (resetState s).Inv :=
  inv_of_bookkeeping (powerOn_inv s.board s.oilPin) s.oilPin s.faults s.pending s.response s.draws

/-- Settles O58: the machine's reset is a power-on. -/
theorem invariantHoldsAtReset : Obligations.InvariantHoldsAtReset := ⟨powerOn_inv, powerOn_inv _ _⟩

/-! ## The outputs -/

/-- The half-period and the count of an output are positive. -/
structure Positive (x : Wave.SquareWave) : Prop where
  hp : 1 ≤ x.hp.toNat
  wcnt : 1 ≤ x.wcnt.toNat

theorem Positive.tick {d : Half} {x : Wave.SquareWave} (h : Positive x) (hd : 2 ≤ d.toNat) : Positive (x.tick d) := by
  by_cases hrest : x.wcnt = d
  · rw [Wave.tick_reload hrest]
    exact ⟨h.hp, h.hp⟩
  by_cases hone : x.wcnt = 1
  · by_cases hdisabled : x.hp = d
    · rw [Wave.tick_stop hd hone hdisabled]
      exact ⟨h.hp, one_le_two.trans hd⟩
    · rw [Wave.tick_toggle hd hone hdisabled]
      exact ⟨h.hp, h.hp⟩
  · have hpos := h.wcnt
    have htwo : 2 ≤ x.wcnt.toNat := by bv_omega
    have hnext : (x.wcnt - 1).toNat = x.wcnt.toNat - 1 := Wave.toNat_sub_ofNat (n := 1) hpos
    rw [Wave.tick_count htwo hrest]
    exact ⟨h.hp, (show 1 ≤ x.wcnt.toNat - 1 by omega).trans_eq hnext.symm⟩

theorem rpmSetpoint_pos (b : Board) (v : Half) : 1 ≤ (rpmSetpoint b.cfg v).toNat := by
  by_cases hv : v = 0
  · rw [rpmSetpoint, if_pos hv]
    exact one_le_two.trans (board_hpDisabled b).1
  · exact (Interpolation.rpmSetpoint_bounds b hv).1

theorem spdSetpoint_pos (b : Board) (v : Byte) : 1 ≤ (spdSetpoint b.cfg v).toNat := by
  by_cases hv : v = 0
  · rw [spdSetpoint, if_pos hv]
    exact one_le_two.trans (board_hpDisabled b).1
  · exact (Interpolation.spdSetpoint_bounds b hv).1

theorem Positive.write_hp {x : Wave.SquareWave} {p : Prop} [Decidable p] {v : Half} (h : Positive x)
    (hv : p → 1 ≤ v.toNat) : Positive { x with hp := if p then v else x.hp } := by
  refine ⟨?_, h.wcnt⟩
  dsimp only
  split_ifs with hp
  · exact hv hp
  · exact h.hp

theorem toNat_pos_of_ne_zero {v : Half} (hv : v ≠ 0) : 1 ≤ v.toNat :=
  Nat.one_le_iff_ne_zero.2 fun hzero => hv (BitVec.eq_of_toNat_eq hzero)

/-- Every operation keeps a positive half-period and count: a WR of 0 is refused, and every computed half-period is
positive. -/
theorem Positive.after {x : Wave.SquareWave} (h : Positive x) (b : Board) (c : Chan) (i : Instr) :
    Positive (x.after b.cfg c i) := by
  obtain ⟨hd, -⟩ := board_hpDisabled b
  cases i
  case wtick => exact h.tick hd
  case reset => exact ⟨one_le_two.trans hd, one_le_two.trans hd⟩
  case wr a v => exact h.write_hp fun ⟨_, hv⟩ => toNat_pos_of_ne_zero hv
  case actRpm v => exact h.write_hp fun _ => rpmSetpoint_pos b v
  case actSpd v => exact h.write_hp fun _ => spdSetpoint_pos b v
  all_goals exact h

/-! ## The other fields, each through its writers -/

theorem pwmTick_pcnt_le {s : State} (h : s.pcnt.toNat ≤ s.board.cfg.pwmTop) :
    (pwmTick s).pcnt.toNat ≤ s.board.cfg.pwmTop := by
  obtain heq | hlt := h.eq_or_lt
  · rw [Pwm.pwmTick_of_top heq]
    exact Nat.zero_le _
  · rw [Pwm.pwmTick_of_lt_top hlt]
    exact (Pwm.pcnt_add_toNat (n := 1) hlt).trans_le hlt

/-- A looked-up temperature is a sentinel or lies in its bucket, so between the ends of the table (10_state.md R57). -/
theorem legalTemp_tempLookup (b : Board) (raw : Nat) : legalTemp b.cfg (BitVec.ofNat 8 (tempLookup b.cfg raw)) := by
  obtain hcold | hhot | ⟨i, hbucket⟩ := Adc.tempLookup_cases b raw
  · left
    rw [hcold, BitVec.ofNat_toNat, BitVec.setWidth_eq]
  · right; left
    rw [hhot, BitVec.ofNat_toNat, BitVec.setWidth_eq]
  · right; right
    have hlength := hbucket.lt_length
    rw [BitVec.toNat_ofNat, Nat.mod_eq_of_lt (Adc.tempLookup_lt b raw), hbucket.tempLookup_eq_bucketTemp]
    constructor
    · exact (Nat.le_add_right _ _).trans hbucket.le_bucketTemp
    · exact hbucket.bucketTemp_le.trans (Nat.add_le_add_left (Nat.mul_le_mul_left _ (by omega)) _)

theorem publishSample_legalTemp {s : State} (h : legalTemp s.board.cfg s.temp) (x : Byte) :
    legalTemp s.board.cfg (publishSample x s).temp := by
  cases hsel : s.adcSel with
  | temperature =>
    rw [Adc.publishSample_of_temperature x hsel]
    exact legalTemp_tempLookup s.board _
  | fuel =>
    rw [Adc.publishSample_of_fuel x hsel]
    exact h

theorem exec_inv {i : Instr} {s t : State} (hs : s.Inv) (h : exec i s = .next t) : t.Inv := by
  by_cases hreset : i = .reset
  · subst hreset
    obtain rfl := Host.Outcome.next.inj h
    exact resetState_inv s
  obtain ⟨hboard, -, -, hrate, hsample, -, -, -, -, -, -, hpcnt, -, hlamp⟩ :=
    Effects.fieldsHaveOnlyTheirWriters i s t h hreset
  have houtput : ∀ c, Positive (Wave.output c t) := fun c =>
    Wave.exec_output c h ▸ Positive.after ⟨hs.hp_pos c, hs.wcnt_pos c⟩ s.board c i
  refine ⟨fun c => (houtput c).wcnt, fun c => (houtput c).hp, ?pcnt, ?wph, ?temp, ?lamp⟩
  case pcnt =>
    rw [hboard]
    by_cases hkept : t.pcnt = s.pcnt
    · exact hkept ▸ hs.pcnt_le
    · obtain rfl := hpcnt hkept
      obtain rfl := Host.Outcome.next.inj h
      exact pwmTick_pcnt_le hs.pcnt_le
  case wph =>
    rw [hboard]
    by_cases hkept : t.wph = s.wph
    · exact hkept ▸ hs.wph_lt
    · obtain rfl | ⟨d, rfl⟩ := hrate (.inr (.inr hkept))
      all_goals obtain rfl := Host.Outcome.next.inj h
      · exact Pulse.baseTick_wph_toNat s ▸ nextPhase_lt s
      · exact Pulse.baseTickEdge_wph_toNat _ d s ▸ nextPhase_lt s
  case temp =>
    rw [hboard]
    by_cases hkept : t.temp = s.temp
    · exact hkept ▸ hs.temp_legal
    · obtain ⟨d, rfl⟩ := hsample (.inl hkept)
      obtain rfl := Host.Outcome.next.inj h
      exact publishSample_legalTemp hs.temp_legal _
  case lamp =>
    by_cases hkept : t.lamp ≠ s.lamp ∨ t.armed ≠ s.armed
    · obtain rfl := hlamp hkept
      obtain rfl := Host.Outcome.next.inj h
      intro (hsuppressed : engineRunning s = false)
      show (engineRunning s && s.oilPin) = false
      rw [hsuppressed, Bool.false_and]
    · simp only [not_or, not_not] at hkept
      obtain ⟨hl, ha⟩ := hkept
      rw [hl, ha]
      exact hs.lamp_gated

/-- Settles O59: the operation of the word keeps the invariants, and neither taking the word nor a record touches them. -/
theorem stepKeepsInvariant : Obligations.StepKeepsInvariant := by
  intro s t hs h
  obtain hidle | ⟨w, rest, -, ⟨i, -, hexec⟩ | hillegal⟩ := Effects.step_cases s
  · exact Host.Outcome.next.inj (hidle.symm.trans h) ▸ hs
  · exact exec_inv (inv_of_bookkeeping hs s.oilPin s.faults rest none s.draws) (hexec.symm.trans h)
  · obtain rfl := Host.Outcome.next.inj (hillegal.symm.trans h)
    exact inv_of_bookkeeping hs s.oilPin (s.faults ++ [⟨.illegal w, w⟩]) rest none s.draws

end Sys2Proof.Proofs.Invariants
end

section
/-! PROOFS. 40_pulse_counter.md over time: the source's rate law (R204, R213), the two orders of an edge and a tick under
EXACT (R210), the window phase as a count of the base ticks (R203), and the counts drained against the edges delivered
(R212). -/

namespace Sys2Proof.Proofs.Windows

open Sys2Proof Sys2Proof.Machine Sys2Proof.Slice0

/-! ## The source's rates (R204, R213) -/

theorem rates_of_sourceFixed {c : Cfg} (h : c.sourceFixed = true) :
    c.windowTicks = 4 ∧ c.rpmMul = 1000 ∧ c.rpmDiv = 18 ∧ c.spdMul = 1 ∧ c.spdDiv = 1 := by
  simp only [Cfg.sourceFixed, Bool.and_eq_true, beq_iff_eq] at h
  tauto

/-- Settles O7: below the bounds the source's rates fit their registers. -/
theorem sourceRateLaw : Obligations.SourceRateLaw := by
  intro s hsource
  obtain ⟨hwindow, hrpmMul, hrpmDiv, hspdMul, hspdDiv⟩ := rates_of_sourceFixed hsource
  refine ⟨baseTick s, exec_btick s, fun hphase hcount => ?_, fun hphase hcount => ?_⟩
  · have hreached : nextPhase s = drainPhase s.board.cfg .ch0 := by rwa [nextPhase, hwindow]
    obtain ⟨-, hpublished⟩ := (Pulse.drainedAt_baseTick .ch0 s).1 hreached
    have hrpm : (baseTick s).rpm.toNat = s.acc.ch0.toNat * 1000 / 18 :=
      (hpublished _ (by rw [hrpmMul, hrpmDiv, Pair.get_ch0])).1 (by omega)
    refine ⟨hrpm, fun h => ?_, fun h => ?_⟩
    all_goals
      rw [h] at hrpm
      exact BitVec.eq_of_toNat_eq hrpm
  · have hreached : nextPhase s = drainPhase s.board.cfg .ch1 := by rwa [nextPhase, hwindow]
    obtain ⟨-, hpublished⟩ := (Pulse.drainedAt_baseTick .ch1 s).1 hreached
    exact (hpublished _ (by rw [hspdMul, hspdDiv, Nat.mul_one, Nat.div_one, Pair.get_ch1])).1 hcount

/-! ## The two orders of an edge and a tick (R210) -/

/-- What commutes with the drain of a channel commutes with its drain at its phase. -/
theorem apply_drainIf {f : State → State} {p : Nat} {c : Chan} {s : State} (hboard : (f s).board = s.board)
    (hdrain : f (drain c s) = drain c (f s)) : f (drainIf p c s) = drainIf p c (f s) := by
  rw [drainIf, drainIf, hboard, apply_ite f, hdrain]

/-- The two drains of a base tick touch different channels, so their order is free. -/
theorem drainIf_comm (p : Nat) (s : State) : drainIf p .ch1 (drainIf p .ch0 s) = drainIf p .ch0 (drainIf p .ch1 s) :=
  have hdrain : drain .ch0 (drainIf p .ch1 s) = drainIf p .ch1 (drain .ch0 s) := apply_drainIf rfl rfl
  apply_drainIf (drainIf_board _ _ _) hdrain.symm

theorem countEdge_drainIf_otherChan (p : Nat) (c : Chan) (s : State) :
    countEdge c (drainIf p (otherChan c) s) = drainIf p (otherChan c) (countEdge c s) := by
  apply apply_drainIf (countEdge_board c s)
  cases c
  all_goals rfl

/-- A base tick, with channel c drained first. -/
theorem baseTick_eq (c : Chan) (s : State) : baseTick s =
    endTick (drainIf (nextPhase s) (otherChan c) (drainIf (nextPhase s) c { s with wph := BitVec.ofNat 8 (nextPhase s) })) := by
  cases c
  case ch0 => rfl
  case ch1 => exact congrArg endTick (drainIf_comm _ _)

/-- At a drain the outcome OLD is the edge before the tick. -/
theorem baseTick_countEdge {c : Chan} {s : State} (h : nextPhase s = drainPhase s.board.cfg c) :
    baseTick (countEdge c s) = baseTickEdge .old c s := by
  have hdrain : drainIf (nextPhase s) c { countEdge c s with wph := BitVec.ofNat 8 (nextPhase s) } =
      Pulse.drainWithEdge .old c s := by
    refine (if_pos h).trans ?_
    cases c
    all_goals rfl
  rw [Pulse.baseTickEdge_of_drained _ h, baseTick_eq c, ← hdrain]
  rfl

/-- At a drain the outcome NEW is the edge after the tick. -/
theorem countEdge_baseTick {c : Chan} {s : State} (h : nextPhase s = drainPhase s.board.cfg c) :
    countEdge c (baseTick s) = baseTickEdge .new c s := by
  have hdrain : countEdge c (drainIf (nextPhase s) c { s with wph := BitVec.ofNat 8 (nextPhase s) }) =
      Pulse.drainWithEdge .new c s := by
    refine (congrArg (countEdge c) (if_pos h)).trans ?_
    cases c
    all_goals rfl
  rw [Pulse.baseTickEdge_of_drained _ h, baseTick_eq c, ← hdrain, ← countEdge_drainIf_otherChan]
  rfl

theorem drawnOutcome_of_exact {s : State} (h : s.board.cfg.boundarySlop = .exact) :
    drawnOutcome s = .old ∨ drawnOutcome s = .new := by
  rw [drawnOutcome, h]
  exact Pulse.allowOutcome_exact _

/-- Settles O9: at a drain the outcome says the order, and off a drain the edge comes first. -/
theorem exactBtickeIsOneOfTwoOrders : Obligations.ExactBtickeIsOneOfTwoOrders := by
  intro c s
  have hbefore : perform [.edge c, .btick] s = some (baseTick (countEdge c s)) := rfl
  have hafter : perform [.btick, .edge c] s = some (countEdge c (baseTick s)) := rfl
  rw [hbefore, hafter]
  refine ⟨fun hexact => ⟨baseTickEdge (drawnOutcome s) c s, exec_bticke c s, ?_⟩, fun hdrain => ?_⟩
  · by_cases hdrain : nextPhase s = drainPhase s.board.cfg c
    · obtain hold | hnew := drawnOutcome_of_exact hexact
      · exact .inl (by rw [hold, baseTick_countEdge hdrain])
      · exact .inr (by rw [hnew, countEdge_baseTick hdrain])
    · exact .inl (by rw [Pulse.baseTickEdge_of_not_drained _ hdrain])
  · exact ⟨congrArg some (baseTick_countEdge hdrain), congrArg some (countEdge_baseTick hdrain)⟩

/-! ## The window phase (R203) -/

section
variable {i : Instr} {s u : State}

theorem baseTicksOf_cons (i : Instr) (ops : List Instr) : baseTicksOf (i :: ops) = baseTicksOf [i] + baseTicksOf ops :=
  List.countP_append (l₁ := [i])

/-- One operation counts itself if it is a base tick, and leaves the phase alone if not. -/
theorem exec_wph (h : exec i s = .next u) (hreset : i ≠ .reset) (hlegal : s.wph.toNat < s.board.cfg.windowTicks) :
    u.wph.toNat = (s.wph.toNat + baseTicksOf [i]) % s.board.cfg.windowTicks := by
  obtain ⟨-, -, -, hrate, -⟩ := Effects.fieldsHaveOnlyTheirWriters i s u h hreset
  by_cases htick : i = .btick ∨ ∃ d, i = .bticke d
  · obtain rfl | ⟨d, rfl⟩ := htick
    all_goals obtain rfl := Host.Outcome.next.inj h
    · exact Pulse.baseTick_wph_toNat s
    · cases d
      all_goals exact Pulse.baseTickEdge_wph_toNat _ _ s
  · have hkept : u.wph = s.wph := by_contra fun hne => htick (hrate (.inr (.inr hne)))
    have hnone : baseTicksOf [i] = 0 := by
      cases i
      case btick | bticke => simp at htick
      all_goals rfl
    rw [hkept, hnone, Nat.add_zero, Nat.mod_eq_of_lt hlegal]

/-- Settles O11: the phase after each operation is legal, and the ticks add up modulo the window. -/
theorem phaseCountsBaseTicks : Obligations.PhaseCountsBaseTicks := by
  intro ops
  induction ops with
  | nil =>
    intro s t _ hlegal h
    obtain rfl := Option.some.inj h
    exact (Nat.mod_eq_of_lt hlegal).symm
  | cons i ops ih =>
    intro s t hreset hlegal h
    obtain ⟨hi, hops⟩ := Effects.not_mem_reset_cons hreset
    obtain ⟨u, hu, hrest⟩ := perform_step h
    have hboard := Wave.exec_board hu
    have hphase := exec_wph hu hi hlegal
    have hlegal' : u.wph.toNat < u.board.cfg.windowTicks := by
      rw [hphase, hboard]
      exact Nat.mod_lt _ (board_window s.board).1
    rw [ih u t hops hlegal' hrest, hboard, hphase, Nat.mod_add_mod, Nat.add_assoc, ← baseTicksOf_cons]

end

/-! ## The counts drained and the edges delivered (R212) -/

/-- An account of channel c from s to u: what was drained and what is left, against what was there and the edges
delivered. The two agree if no edge fell in a drain or BOUNDARY_SLOP is EXACT, else within one for each that did. -/
structure Balanced (c : Chan) (s u : State) (drained edges slop : Nat) : Prop where
  eq : s.board.cfg.boundarySlop = .exact ∨ slop = 0 →
    drained + (u.acc.get c).toNat = (s.acc.get c).toNat + edges
  le : drained + (u.acc.get c).toNat ≤ (s.acc.get c).toNat + edges + slop
  ge : (s.acc.get c).toNat + edges ≤ drained + (u.acc.get c).toNat + slop

section
variable {c : Chan} {i : Instr} {ops : List Instr} {s t u : State} {m e b m' e' b' : Nat}

theorem Balanced.of_eq (h : m + (u.acc.get c).toNat = (s.acc.get c).toNat + e) : Balanced c s u m e b :=
  ⟨fun _ => h, by omega, by omega⟩

/-- Accounts of two runs in a row add up, for the board is the same. -/
theorem Balanced.trans (h : Balanced c s u m e b) (h' : Balanced c u t m' e' b') (hboard : u.board = s.board) :
    Balanced c s t (m + m') (e + e') (b + b') := by
  obtain ⟨heq, hle, hge⟩ := h
  obtain ⟨heq', hle', hge'⟩ := h'
  rw [hboard] at heq'
  refine ⟨fun hexact => ?_, by omega, by omega⟩
  have hfirst := heq (hexact.imp id fun h => by omega)
  have hsecond := heq' (hexact.imp id fun h => by omega)
  omega

theorem edgesOf_cons (c : Chan) (i : Instr) (ops : List Instr) : edgesOf c (i :: ops) = edgesOf c [i] + edgesOf c ops :=
  List.countP_append (l₁ := [i])

theorem totalDrained_cons (h : exec i s = .next u) :
    totalDrained c (i :: ops) s = drainedBy c i s + totalDrained c ops u := by
  rw [totalDrained, h]

/-- The slop of one operation: 1 for a BTICKE of the channel at its drain. -/
def slopOf (c : Chan) (i : Instr) (s : State) : Nat :=
  if i = .bticke c ∧ nextPhase s = drainPhase s.board.cfg c then 1 else 0

theorem edgesInDrain_cons (h : exec i s = .next u) :
    edgesInDrain c (i :: ops) s = slopOf c i s + edgesInDrain c ops u := by
  rw [edgesInDrain, h]
  rfl

theorem edgesOf_singleton (c : Chan) (i : Instr) : edgesOf c [i] = if i = .edge c ∨ i = .bticke c then 1 else 0 := by
  simp [edgesOf, List.countP_cons]

/-! ### What one operation drains -/

theorem drainedBy_off_phase (h : nextPhase s ≠ drainPhase s.board.cfg c) : drainedBy c i s = 0 := if_neg h

/-- A tick without an edge of the channel drains what the accumulator holds. -/
theorem drainedBy_tick (h : nextPhase s = drainPhase s.board.cfg c) (hi : i = .btick ∨ i = .bticke (otherChan c)) :
    drainedBy c i s = (s.acc.get c).toNat := (if_pos h).trans (if_pos hi)

theorem drainedBy_other (hi : ¬ (i = .btick ∨ i = .bticke (otherChan c))) (hi' : i ≠ .bticke c) :
    drainedBy c i s = 0 := by
  rw [drainedBy, if_neg hi, if_neg hi', ite_self]

theorem eq_or_eq_otherChan (c d : Chan) : d = c ∨ d = otherChan c := by
  cases c
  all_goals
    cases d
    all_goals decide

theorem bticke_not_other (c : Chan) : ¬ (Instr.bticke c = .btick ∨ Instr.bticke c = .bticke (otherChan c)) := by
  rintro (h | h)
  · cases h
  · exact otherChan_ne c (Instr.bticke.inj h).symm

theorem drainedBy_bticke (h : nextPhase s = drainPhase s.board.cfg c) : drainedBy c (.bticke c) s =
    (s.acc.get c).toNat + if drawnOutcome s = .old ∨ drawnOutcome s = .dup then 1 else 0 :=
  (if_pos h).trans ((if_neg (bticke_not_other c)).trans (if_pos rfl))

/-! ### The account of one operation -/

/-- An operation's account of channel c; what is left is never more than the edges leave in the old window. -/
structure Account (c : Chan) (i : Instr) (s u : State) : Prop where
  balanced : Balanced c s u (drainedBy c i s) (edgesOf c [i]) (slopOf c i s)
  acc_le : (u.acc.get c).toNat ≤ (s.acc.get c).toNat + edgesOf c [i]

theorem Account.of_eq (h : drainedBy c i s + (u.acc.get c).toNat = (s.acc.get c).toNat + edgesOf c [i]) :
    Account c i s u := ⟨.of_eq h, by omega⟩

theorem account_tick (hi : i = .btick ∨ i = .bticke (otherChan c)) (h : exec i s = .next u) : Account c i s u := by
  have hchannel : DrainedAt (nextPhase s) c s u := by
    obtain rfl | rfl := hi
    all_goals obtain rfl := Host.Outcome.next.inj h
    · exact Pulse.drainedAt_baseTick c s
    · have hother := Pulse.drainedAt_baseTickEdge_otherChan (drawnOutcome s) (otherChan c) s
      rwa [otherChan_otherChan] at hother
  have hnoedge : edgesOf c [i] = 0 := by
    rw [edgesOf_singleton]
    obtain rfl | rfl := hi
    · rfl
    · simp [otherChan_ne]
  obtain ⟨hdrained, hkept⟩ := hchannel
  apply Account.of_eq
  by_cases hphase : nextPhase s = drainPhase s.board.cfg c
  · obtain ⟨hzero, -⟩ := hdrained hphase
    rw [drainedBy_tick hphase hi, hnoedge, hzero]
    rfl
  · obtain ⟨hsame, -⟩ := hkept hphase
    rw [drainedBy_off_phase hphase, hnoedge, hsame, Nat.zero_add, Nat.add_zero]

theorem toNat_countEdge (hroom : (s.acc.get c).toNat + 1 < 2 ^ 16) :
    ((countEdge c s).acc.get c).toNat = (s.acc.get c).toNat + 1 := by
  rw [countEdge_acc, Pair.get_set_same, BitVec.toNat_add]
  exact Nat.mod_eq_of_lt hroom

theorem toNat_residue (o : Outcome) (h : nextPhase s = drainPhase s.board.cfg c) :
    ((baseTickEdge o c s).acc.get c).toNat = if o = .new ∨ o = .dup then 1 else 0 := by
  rw [Pulse.baseTickEdge_residue o h]
  split_ifs
  all_goals rfl

theorem account_edge (hroom : (s.acc.get c).toNat + 1 < 2 ^ 16) : Account c (.edge c) s (countEdge c s) := by
  apply Account.of_eq
  rw [drainedBy_other (by simp) (by simp), edgesOf_singleton, if_pos (.inl rfl), toNat_countEdge hroom, Nat.zero_add]

/-- At a drain the outcomes OLD and NEW count the edge once, LOST not at all and DUP twice. -/
theorem account_bticke (hroom : (s.acc.get c).toNat + 1 < 2 ^ 16) :
    Account c (.bticke c) s (baseTickEdge (drawnOutcome s) c s) := by
  have hedge : edgesOf c [.bticke c] = 1 := by rw [edgesOf_singleton, if_pos (.inr rfl)]
  by_cases hphase : nextPhase s = drainPhase s.board.cfg c
  · have hslop : slopOf c (.bticke c) s = 1 := if_pos ⟨rfl, hphase⟩
    have hresidue := toNat_residue (drawnOutcome s) hphase
    refine ⟨⟨fun hexact => ?_, ?_, ?_⟩, ?_⟩
    · have hexact := hexact.resolve_right (by omega)
      obtain ho | ho := drawnOutcome_of_exact hexact
      all_goals
        rw [drainedBy_bticke hphase, hedge, hresidue]
        simp [ho]
    all_goals
      simp only [drainedBy_bticke hphase, hedge, hslop, hresidue]
      split_ifs
      all_goals omega
  · have hsame := ((Pulse.drainedAt_baseTick c (countEdge c s)).2 hphase).1
    apply Account.of_eq
    rw [drainedBy_off_phase hphase, hedge, Pulse.baseTickEdge_of_not_drained _ hphase, hsame, toNat_countEdge hroom,
      Nat.zero_add]

theorem exec_account (h : exec i s = .next u) (hreset : i ≠ .reset)
    (hroom : (s.acc.get c).toNat + edgesOf c [i] < 2 ^ 16) : Account c i s u := by
  by_cases htick : i = .btick ∨ i = .bticke (otherChan c)
  · exact account_tick htick h
  by_cases hbticke : i = .bticke c
  · subst hbticke
    obtain rfl := Host.Outcome.next.inj h
    exact account_bticke (by rwa [edgesOf_singleton, if_pos (.inr rfl)] at hroom)
  by_cases hedge : i = .edge c
  · subst hedge
    obtain rfl := Host.Outcome.next.inj h
    exact account_edge (by rwa [edgesOf_singleton, if_pos (.inl rfl)] at hroom)
  · obtain ⟨-, -, hacc, -⟩ := Effects.fieldsHaveOnlyTheirWriters i s u h hreset
    have hkept : u.acc.get c = s.acc.get c := by
      by_contra hne
      obtain hi | hi | ⟨d, hi⟩ := hacc c hne
      · exact hedge hi
      · exact htick (.inl hi)
      · obtain rfl | rfl := eq_or_eq_otherChan c d
        · exact hbticke hi
        · exact htick (.inr hi)
    apply Account.of_eq
    rw [drainedBy_other htick hbticke, edgesOf_singleton, if_neg (not_or.2 ⟨hedge, hbticke⟩), hkept, Nat.zero_add,
      Nat.add_zero]

/-! ### The account of a run -/

theorem perform_balanced (hreset : Instr.reset ∉ ops) (h : perform ops s = some t)
    (hroom : (s.acc.get c).toNat + edgesOf c ops < 2 ^ 16) :
    Balanced c s t (totalDrained c ops s) (edgesOf c ops) (edgesInDrain c ops s) := by
  induction ops generalizing s with
  | nil =>
    obtain rfl := Option.some.inj h
    exact .of_eq (Nat.add_comm _ _)
  | cons i ops ih =>
    obtain ⟨hi, hops⟩ := Effects.not_mem_reset_cons hreset
    obtain ⟨u, hu, hrest⟩ := perform_step h
    rw [edgesOf_cons] at hroom ⊢
    obtain ⟨hfirst, hleft⟩ := exec_account (c := c) hu hi (by omega)
    rw [totalDrained_cons hu, edgesInDrain_cons hu]
    exact hfirst.trans (ih hops hrest (by omega)) (Wave.exec_board hu)

end

/-- Settles O10: the account of a run is the sum of its operations' accounts. -/
theorem drainedCountsMatchEdgesWithinSlop : Obligations.DrainedCountsMatchEdgesWithinSlop := by
  intro c ops s t hreset h hroom
  obtain ⟨heq, hle, hge⟩ := perform_balanced hreset h hroom
  exact ⟨heq, hle, hge⟩

end Sys2Proof.Proofs.Windows
end

section
/-! PROOFS. 41_adc_sampler.md R251, R253, R260: the degrees of a sample inside its bucket, and the two channels in turn. -/

namespace Sys2Proof.Proofs.Sampler

open Sys2Proof Sys2Proof.Machine Sys2Proof.Slice0

/-! ## Inside a bucket (R253) -/

/-- A floor of a difference from a multiple is the multiple less the ceiling. -/
theorem mul_sub_div_eq_sub_ceil {d p x : Nat} (hd : 0 < d) (hx : x ≤ d * p) :
    (d * p - x) / d = p - (x + (d - 1)) / d ∧ (x + (d - 1)) / d ≤ p := by
  have hceil : (x + (d - 1)) / d ≤ p := by
    rw [← Nat.lt_succ_iff, Nat.div_lt_iff_lt_mul hd, Nat.succ_mul, Nat.mul_comm p d]
    omega
  refine ⟨?_, hceil⟩
  cases x with
  | zero =>
    rw [Nat.sub_zero, Nat.mul_div_cancel_left _ hd, Nat.zero_add, Nat.div_eq_of_lt (by omega), Nat.sub_zero]
  | succ z =>
    have hround : z + 1 + (d - 1) = z + d := by omega
    rw [Nat.mul_sub_div _ _ _ hx, hround, Nat.add_div_right _ hd]

/-- The degrees of a bucket, counted down from those of its lower breakpoint by the rounded-up share of the step. -/
theorem bucketTemp_eq_sub_ceil {c : Cfg} {i raw : Nat} (h : Adc.InBucket c i raw) :
    Adc.bucketTemp c i raw = c.tempBase + c.tempStep * i -
      (c.tempStep * (raw - c.tempTable.getD i 0) + (c.tempTable.getD (i - 1) 0 - c.tempTable.getD i 0 - 1)) /
        (c.tempTable.getD (i - 1) 0 - c.tempTable.getD i 0) := by
  have hspan := h.span_pos
  have hlo := h.lo_le
  have hhi := h.lt_hi
  simp only [Adc.bucketTemp]
  generalize c.tempTable.getD (i - 1) 0 = hi at *
  generalize c.tempTable.getD i 0 = lo at *
  have hdown : (i - 1) * (hi - lo) + (hi - raw) = i * (hi - lo) - (raw - lo) := by
    obtain ⟨k, rfl⟩ := Nat.exists_eq_add_of_le' h.pos
    rw [Nat.add_sub_cancel, Nat.succ_mul]
    omega
  have hshare : c.tempStep * (raw - lo) ≤ (hi - lo) * (c.tempStep * i) := by
    rw [Nat.mul_left_comm]
    exact Nat.mul_le_mul_left _ ((by omega : raw - lo ≤ hi - lo).trans (Nat.le_mul_of_pos_right _ h.pos))
  obtain ⟨hfloor, hceil⟩ := mul_sub_div_eq_sub_ceil hspan hshare
  rw [hdown, Nat.mul_sub, ← Nat.mul_assoc, Nat.mul_comm (c.tempStep * i), hfloor, Nat.add_sub_assoc hceil]

theorem tempBase_of_sourceFixed {c : Cfg} (h : c.sourceFixed = true) : c.tempBase = 40 := by
  simp only [Cfg.sourceFixed, Bool.and_eq_true, beq_iff_eq] at h
  tauto

/-- Settles O14: the degrees lie between those of the bucket's ends, so above the base and below the hot sentinel. -/
theorem tempLookupStaysInBucket : Obligations.TempLookupStaysInBucket := by
  intro b raw i hpos hi hlo hhi
  have h : Adc.InBucket b.cfg i raw := ⟨hpos, hi, hlo, hhi⟩
  have hlookup := h.tempLookup_eq_bucketTemp
  have hlower := h.le_bucketTemp
  have hhot := h.tempLookup_lt_tempHot
  rw [← hlookup] at hlower
  refine ⟨hlower, hlookup ▸ h.bucketTemp_le, hlookup ▸ bucketTemp_eq_sub_ceil h, hhot.ne, fun hsource => ?_⟩
  have hbase := tempBase_of_sourceFixed hsource
  rw [(Scope.sentinels_of_sourceFixed hsource).1] at hhot
  exact ⟨by omega, hhot.ne⟩

/-! ## The channels in turn (R251, R260) -/

theorem publishSample_adcSel_ne (x : Byte) (s : State) : (publishSample x s).adcSel ≠ s.adcSel := by
  cases hsel : s.adcSel with
  | temperature => simp [Adc.publishSample_of_temperature x hsel]
  | fuel => simp [Adc.publishSample_of_fuel x hsel]

/-- With two channels, not to be one that differs from x is to be x. -/
theorem adcSel_eq_iff_ne {x y : AdcSel} (h : y ≠ x) (z : AdcSel) : z = x ↔ z ≠ y := by
  cases x
  all_goals
    cases y
    all_goals
      cases z
      all_goals simp at h ⊢

/-- Settles O16: an ADC completion selects the other channel, and no other operation selects one. -/
theorem conversionsAlternate : Obligations.ConversionsAlternate := by
  intro ops
  induction ops with
  | nil =>
    intro s t _ h
    obtain rfl := Option.some.inj h
    simp
  | cons i ops ih =>
    intro s t hreset h
    obtain ⟨u, hu, hrest⟩ := perform_step h
    obtain ⟨hi, hops⟩ := Effects.not_mem_reset_cons hreset
    have hlater := ih u t hops hrest
    by_cases hadc : ∃ d, i = .adcdone d
    · obtain ⟨d, rfl⟩ := hadc
      obtain rfl := Host.Outcome.next.inj hu
      rw [adcSel_eq_iff_ne (publishSample_adcSel_ne _ s), ne_eq, hlater, List.countP_cons_of_pos rfl]
      omega
    · obtain ⟨-, -, -, -, hsample, -⟩ := Effects.fieldsHaveOnlyTheirWriters i s u hu hi
      have hkept : u.adcSel = s.adcSel := by_contra fun hne => hadc (hsample (.inr (.inr hne)))
      have hnone : ¬ isAdcdone i = true := by
        cases i
        case adcdone => simp at hadc
        all_goals simp [isAdcdone]
      rw [← hkept, hlater, List.countP_cons_of_neg hnone]

end Sys2Proof.Proofs.Sampler
end

section
/-! PROOFS. Setpoints over time and what a configuration fixes: a half-period waits for the reload (42_waveform.md R302), a
compare value for the wrap (44_pwm.md R405), a written setpoint reads back (20_memory.md R118); the model's choices on
FUEL_TO_PCT and on the sentinels (log 9, log 10). -/

namespace Sys2Proof.Proofs.Setpoints

open Sys2Proof Sys2Proof.Machine Sys2Proof.Slice0

/-! ## A half-period waits for the reload (R302, R621) -/

/-- The tick at which the count runs out reloads it with the half-period of that moment, and toggles an enabled output. -/
theorem ticks_run_out {d : Half} {x : Wave.SquareWave} (hpos : 1 ≤ x.wcnt.toNat) (hlt : x.wcnt.toNat < d.toNat) :
    (Wave.SquareWave.tick d)^[x.wcnt.toNat] x =
      { x with wcnt := x.hp, fout := if x.hp = d then x.fout else !x.fout } := by
  obtain ⟨k, hk⟩ := Nat.exists_eq_add_of_le' hpos
  have hlast : x.wcnt - BitVec.ofNat 16 k = 1 := by
    apply BitVec.eq_of_toNat_eq
    rw [Wave.toNat_sub_ofNat (by omega), hk, Nat.add_sub_cancel_left]
    rfl
  have hd : 2 ≤ d.toNat := by omega
  rw [hk, Function.iterate_succ_apply', Wave.ticks_count (by omega) hlt]
  by_cases hdisabled : x.hp = d
  · rw [Wave.tick_stop (x := { x with wcnt := x.wcnt - BitVec.ofNat 16 k }) hd hlast hdisabled, if_pos hdisabled, hdisabled]
  · rw [Wave.tick_toggle (x := { x with wcnt := x.wcnt - BitVec.ofNat 16 k }) hd hlast hdisabled, if_neg hdisabled]

/-- The ticks after a write of a half-period are those of the output with that half-period. -/
theorem perform_wr_hp_wticks (c : Chan) {h : Half} (hh : h ≠ 0) (n : Nat) (s : State) :
    ∃ t, perform (.wr (hpAddr c) h :: List.replicate n .wtick) s = some t ∧
      Wave.output c t = (Wave.SquareWave.tick s.board.cfg.hpDisabled)^[n] { Wave.output c s with hp := h } := by
  obtain ⟨t, ht, houtput⟩ := Wave.perform_wticks c n { s with hp := s.hp.set c h }
  refine ⟨t, ?_, houtput.trans ?_⟩
  · rw [perform_cons _ (Wave.exec_wr_hpAddr c hh s), ht]
  · simp only [Wave.output, Pair.get_set_same]

/-- Settles O21: before the reload a tick does not read the half-period, at the reload it takes it. -/
theorem setpointTakesEffectAtReload : Obligations.SetpointTakesEffectAtReload := by
  intro c s h n hh hpos hlt
  obtain ⟨t, ht, hwritten⟩ := perform_wr_hp_wticks c hh n s
  obtain ⟨u, hu, hunwritten⟩ := Wave.perform_wticks c n s
  constructor
  · intro hn
    rw [Wave.ticks_count hn hlt] at hwritten hunwritten
    obtain ⟨-, htcount, htlevel⟩ := Wave.fields_of_output hwritten
    obtain ⟨-, hucount, hulevel⟩ := Wave.fields_of_output hunwritten
    exact ⟨t, u, ht, hu, htcount.trans hucount.symm, htlevel.trans hulevel.symm, htlevel⟩
  · rintro rfl
    have hrunout := ticks_run_out (x := { Wave.output c s with hp := h }) hpos hlt
    obtain ⟨-, hcount, hlevel⟩ := Wave.fields_of_output (hwritten.trans hrunout)
    exact ⟨t, ht, hcount, hlevel⟩

/-! ## A compare value waits for the wrap (R405) -/

/-- Settles O25: the ticks up to the top move the count alone, and the next one loads. -/
theorem compareValueWaitsForWrap : Obligations.CompareValueWaitsForWrap := by
  intro s n hupdate hlegal
  constructor
  · intro hn
    exact ⟨_, Pwm.perform_pticks_of_le_top hn, rfl, Pwm.pcnt_add_toNat hn⟩
  · intro hn
    obtain ⟨m, rfl⟩ := Nat.exists_eq_add_of_le' (show 1 ≤ n by omega)
    exact ⟨_, Pwm.perform_pticks_of_eq_top (by omega), if_pos hupdate, rfl⟩

/-! ## A written setpoint reads back (R118) -/

/-- The register of a half-period setpoint (20_memory.md R101). -/
def hpReg : Chan → HostReg
  | .ch0 => .hp0
  | .ch1 => .hp1

/-- A write that is performed, and the read of its register after it. -/
theorem perform_wr_rd {r : HostReg} {v : Half} {s u : State} (h : exec (.wr r.addr v) s = .next u) :
    perform [.wr r.addr v, .rd r.addr] s = some { u with response := some (regRead r u) } := by
  rw [perform_cons _ h, perform_cons _ (HostBus.exec_rd_addr r u)]
  rfl

theorem wr_rd_hp (c : Chan) {v : Half} (hv : v ≠ 0) (s : State) :
    ∃ t, perform [.wr (hpAddr c) v, .rd (hpAddr c)] s = some t ∧ t.response = some v := by
  have haddr : hpAddr c = (hpReg c).addr := by
    cases c
    all_goals rfl
  have hwrite := Wave.exec_wr_hpAddr c hv s
  rw [haddr] at hwrite ⊢
  refine ⟨_, perform_wr_rd hwrite, ?_⟩
  cases c
  all_goals rfl

theorem wr_rd_cmp (c : Chan) (v : Half) (s : State) :
    ∃ t, perform [.wr (HostBus.cmpReg c).addr v, .rd (HostBus.cmpReg c).addr] s = some t ∧ t.response = some v := by
  refine ⟨_, perform_wr_rd (HostBus.exec_wr_cmpReg c v s), ?_⟩
  cases c
  all_goals rfl

/-- Settles O33: each of the four setpoints reads back. -/
theorem writeThenReadReturnsValue : Obligations.WriteThenReadReturnsValue := by
  intro s a v hlo hhi hlegal
  obtain ⟨r, rfl⟩ := Memory.exists_addr_of_lt (a := a) (by omega)
  cases r
  case hp0 => exact wr_rd_hp .ch0 (hlegal (by decide)) s
  case hp1 => exact wr_rd_hp .ch1 (hlegal (by decide)) s
  case cmp0 => exact wr_rd_cmp .ch0 v s
  case cmp1 => exact wr_rd_cmp .ch1 v s
  all_goals simp [HostReg.addr] at hlo hhi

/-! ## The model's choices (log 9, log 10) -/

/-- Settles O38: the level is the list's entry, and its default value is the sample. -/
theorem fuelLevelIsEntryOrSample : Obligations.FuelLevelIsEntryOrSample := by
  intro c v
  constructor
  · intro hlt
    rw [fuelPct, List.getD_eq_getElem _ _ hlt, List.getD_eq_getElem _ _ hlt]
  · exact List.getD_eq_default _ _

/-- DISABLE is the WR of the configuration's sentinel to the half-period of the channel (30_encoding.md R159). -/
theorem assemble_disable (cfg : Cfg) {c : Nat} (hc : c ≤ 1) :
    assemble cfg (.disable c) = assemble cfg (.wr (.number (8 + c)) cfg.hpDisabled.toNat) := by
  refine Encoding.assemble_congr (if_pos hc) ?_ ?_
  · exact (if_pos (Encoding.number_inRange (by omega))).trans (if_pos cfg.hpDisabled.isLt)
  · rw [AsmLine.expand, AsmLine.expand, BitVec.ofNat_toNat, BitVec.setWidth_eq]
    interval_cases c
    all_goals rfl

/-- Settles O60: the checks are the rules below the configuration's own sentinels, and DISABLE writes its own sentinel. -/
theorem sentinelsFollowTheConfiguration : Obligations.SentinelsFollowTheConfiguration :=
  ⟨Scope.build_ok_iff_rules, fun cfg _ => assemble_disable cfg⟩

end Sys2Proof.Proofs.Setpoints
end
